-- ==== Sys2Proof/Word.lean ====
section
/-! DEFINITION. The two word types of the 740 Family CPU (00_scope.md R6): bytes and sixteen-bit addresses. -/

namespace Sys2Proof

/-- A register, memory cell or instruction byte: eight bits (R6, R9). -/
abbrev Byte := BitVec 8

/-- An address or the program counter: sixteen bits (R6). -/
abbrev Word := BitVec 16

/-- A bit number of a bit instruction: the three bits 7-5 of its Op-Code (R95). -/
abbrev BitNo := BitVec 3

end Sys2Proof
end

