-- ==== Sys2Proof/Machine/Bits.lean ====
section
/-! DEFINITION. Bit-field, byte-order and extension helpers: the notation of 00_scope.md R9 to R11. -/

namespace Sys2Proof.Machine

/-- `hi:lo`, the word `hi * 256 + lo` (R11). -/
def mkWord (hi lo : Byte) : Word := hi ++ lo

/-- `w[7:0]`. -/
def lowByte (w : Word) : Byte := w.extractLsb' 0 8

/-- `w[15:8]`. -/
def highByte (w : Word) : Byte := w.extractLsb' 8 8

/-- `sext_16(v)` (R11). -/
def sext16 (v : Byte) : Word := v.signExtend 16

/-- `zext_16(v)` (R11). -/
def zext16 (v : Byte) : Word := v.setWidth 16

/-- `bit(v, i)` (R11). -/
def bitOf (v : Byte) (i : Nat) : Bool := v.getLsbD i

/-- `setbit(v, i, b)` (R11). -/
def setBit (v : Byte) (i : Nat) (b : Bool) : Byte :=
  if b then v ||| (1#8 <<< i) else v &&& ~~~(1#8 <<< i)

/-- The zero-page address `0x00:z` (R94 (b)). -/
def zeroPage (z : Byte) : Word := mkWord 0x00#8 z

/-- The special-page address `0xFF:p` (R94 (e)). -/
def specialPage (p : Byte) : Word := mkWord 0xFF#8 p

/-- Byte `i` of a number, byte 0 the least significant. -/
def byteOfNat (w i : Nat) : Byte := BitVec.ofNat 8 (w / 256 ^ i)

end Sys2Proof.Machine
end

