-- ==== Sys2Proof/Config.lean ====
section
/-! DEFINITION. The parameters of 00_scope.md R7 as plain data, and the free values: constants without a body, which
stand for every `draw` of the spec (R11). `State` holds a `Config`, so a statement about every state is a statement
about every value of every parameter (log 1). -/

namespace Sys2Proof

/-- What a part of the address space is (20_memory.md R71, 92_eei_decisions.md D16). -/
inductive RegionKind where
  | /-- returns the last byte written -/ ram
  | /-- holds its contents; a write is ignored -/ rom
  | /-- the I/O area: a device supplies what a read returns -/ device
  | /-- no cell: a read is any value, a write is ignored -/ unmapped
  deriving DecidableEq, Repr

/-- One region of `MEMMAP`: the `size` addresses from `base` up. -/
structure Region where
  base : Nat
  size : Nat
  kind : RegionKind
  deriving DecidableEq, Repr

/-- One entry of `IRQ_TABLE` (R7, R322): a source's name, its vector address, and whether it works without the clock
and so can end a stop (R302). Its priority is its place in the table (R325, log 16). -/
structure IrqSource where
  name : String
  vector : Word
  wakesStop : Bool
  deriving DecidableEq, Repr

/-- The parameters of R7 that R7 and 92_eei_decisions.md leave OPEN. `DECIMAL_NVZ` (always the draw, D14) and
`UNDEF_OPCODE` (always refuse, D11) have one value each and are no field. -/
structure Config where
  /-- the Stack Page Selection Bit (R24, R25, D2) -/
  stackPageBit : Bool
  /-- `RESET_VECTOR` (D7) -/
  resetVector : Word
  /-- `BRK_VECTOR` (D9) -/
  brkVector : Word
  /-- `IRQ_TABLE`, highest priority first (D8, D25) -/
  irqTable : List IrqSource
  /-- `MEMMAP` (D16): the first region that holds an address gives its kind -/
  memMap : List Region
  /-- `HAS_MUL_DIV` (D18) -/
  hasMulDiv : Bool
  /-- `HAS_STP_WIT` (D18) -/
  hasStpWit : Bool
  deriving DecidableEq, Repr

/-- Why the CPU reads a byte. A free bus byte depends on it, so that two accesses of one instruction to one device
cell need not return the same byte (R70, log 9). -/
inductive Access where
  | fetch | pointer | operand | target | stack | vector
  deriving DecidableEq, Repr

/-- The one-bit draws of the spec. -/
inductive BitDraw where
  | /-- N after a decimal ADC or SBC (R182) -/ decimalN
  | /-- V after a decimal ADC or SBC (R182) -/ decimalV
  | /-- Z after a decimal ADC or SBC (R182) -/ decimalZ
  | /-- C when an operand is no decimal numeral (R182) -/ decimalC
  | /-- C after CLC, SEC or CLD right behind a decimal ADC or SBC (R368) -/ hazardC
  | /-- D after the same (R368) -/ hazardD
  | /-- whether a qualifying request is taken at this boundary (R324) -/ acceptRequest
  deriving DecidableEq, Repr

/-- The eight-bit draws of the spec. -/
inductive ByteDraw where
  | /-- the result when an operand is no decimal numeral (R182) -/ decimalResult
  | /-- A after a DIV whose quotient does not fit (R192) -/ quotient
  | /-- the byte such a DIV pushes (R192) -/ remainder
  | /-- A after hardware reset (R47) -/ resetA
  | /-- X after hardware reset (R47) -/ resetX
  | /-- Y after hardware reset (R47) -/ resetY
  | /-- S after hardware reset (R47) -/ resetS
  | /-- PS after hardware reset, but for I (R47) -/ resetPS
  deriving DecidableEq, Repr

/-- A free bit: nothing is known of it. Its second argument is the counter `State.draws` (log 11). -/
opaque Config.freeBit : BitDraw → Nat → Bool

/-- A free byte: nothing is known of it. Its second argument is the counter `State.draws` (log 11). -/
opaque Config.freeByte : ByteDraw → Nat → Byte

/-- A free choice among the vectors BRK may use while a request waits (R300 (c), log 17). -/
opaque Config.freeIndex : Nat → Nat

/-- What a RAM or ROM cell that nothing has written holds (R362, 93_implementation_defined.md U14): any value, one
for each cell, fixed (log 5). -/
opaque Config.powerOnByte : Word → Byte

/-- What a read of a device cell or of an unmapped address returns (R73, U13, U17): any value, for each access, each
step and each address (log 8, log 9). -/
opaque Config.busByte : Access → Nat → Word → Byte

end Sys2Proof
end

