-- ==== Sys2Proof/Machine/State.lean ====
section
/-! DEFINITION. The state of the CPU (10_state.md), plain data, and the state after reset. -/

namespace Sys2Proof.Machine

/-- Memory: the cells something has written, as (address, byte) pairs. An address that is not listed holds no
written byte (log 5). -/
abbrev Memory := List Host.Cell

/-- The canonical form of a memory: addresses strictly rising and inside the 64 KiB space (R60). An unlisted address
reads as no written byte, so no entry can equal it. -/
abbrev Memory.wf (m : Memory) : Prop :=
  m.Pairwise (fun c d => c.1 < d.1) ∧ ∀ c ∈ m, c.1 < 65536

/-- The run state (R46 (b)). -/
inductive RunState where
  | running
  | /-- after WIT (R301) -/ waiting
  | /-- after STP (R302) -/ stopped
  deriving DecidableEq, Repr

/-- The flags of PS (R34). -/
inductive Flag where
  | n | v | t | b | d | i | z | c
  deriving DecidableEq, Repr

/-- The state of the machine: the six registers (R20), memory (R45), the state of R46, the parameters of R7, and two
fields of the model's own, `oldI` and `draws`. -/
structure State where
  /-- the accumulator A (R22) -/
  a : Byte
  /-- index register X (R23) -/
  x : Byte
  /-- index register Y (R23) -/
  y : Byte
  /-- the stack pointer S (R24) -/
  sp : Byte
  /-- the program counter PC (R29) -/
  pc : Word
  /-- the processor status register PS, `N V T B D I Z C` from bit 7 to bit 0 (R34) -/
  ps : Byte
  /-- memory (R60) -/
  mem : Memory
  /-- the interrupt request bits `pending[k]` (R46 (a), R322) -/
  pending : List Bool
  /-- the interrupt enable bits `enabled[k]` (R46 (a), R322) -/
  enabled : List Bool
  /-- the run state (R46 (b)) -/
  runState : RunState
  /-- `dec_pending`: the instruction just completed was a decimal-mode ADC or SBC (R46 (d)) -/
  decPending : Bool
  /-- the model's own: right after CLI, SEI, PLP or RTI the value PS.I had before it, otherwise none (R324, D17, log 15) -/
  oldI : Option Bool
  /-- the model's own: the counter the free values are applied to (log 11) -/
  draws : Nat
  /-- the parameters (R7, log 1); STACK_PAGE, which R46 (c) lists as state, is among them -/
  cfg : Config
  deriving DecidableEq, Repr

/-- The machine raises no fault: the CPU has no synchronous exception but BRK (R320), which is an ordinary next
state. The type is empty, so no instruction can stop with one: safe. -/
inductive Fault where
  deriving DecidableEq, Repr

/-- Why the machine declines to step. All four are safe: nothing is claimed of what the hardware does. -/
inductive Refusal where
  | /-- An instruction that has no meaning yet; raised by `exec` only, and by no arm of it now. Safe. -/
    notModelled (mnemonic : String)
  | /-- The byte selects no instruction (R99), or an instruction this member lacks (R100): `refuse(undefined_opcode)`.
    Raised by the fetch and by MUL, DIV, WIT and STP. Safe. -/
    undefinedOpcode (opcode : Byte)
  | /-- JMP Indirect Absolute with a pointer at the last address of a page: `refuse(jmp_indirect_page_end)` (R134).
    Raised by JMP. Safe. -/
    jmpIndirectPageEnd
  | /-- DIV whose dividend's low byte lies at 0x00FF: `refuse(div_operand_wraps)` (R192). Raised by DIV. Safe. -/
    divOperandWraps
  deriving DecidableEq, Repr

/-- What an instruction answers. -/
abbrev Result := Host.Outcome State Fault Refusal

/-- The parameters of `State.reset`: the conventions of 95_test_vectors.md (STACK_PAGE 01, BRK_VECTOR FFDC, all memory
RAM, MUL, DIV, STP and WIT present), the customary RESET_VECTOR FFFC of R7, and no interrupt source (log 2). -/
def resetConfig : Config where
  stackPageBit := true
  resetVector := 0xFFFC#16
  brkVector := 0xFFDC#16
  irqTable := []
  memMap := [⟨0, 65536, .ram⟩]
  hasMulDiv := true
  hasStpWit := true

/-- The machine right after reset. Stated by R47: I = 1, running, `dec_pending` false, nothing pending or enabled.
The other registers are indeterminate (R47): the values here are the model's (log 3; A, X, Y, S and PS from program P1
of 95_test_vectors.md, which starts right after reset; log 4 for PC). -/
def State.reset : State where
  a := 0xAA#8
  x := 0xBB#8
  y := 0xCC#8
  sp := 0x33#8
  pc := 0xC000#16
  ps := 0x04#8
  mem := []
  pending := []
  enabled := []
  runState := .running
  decPending := false
  oldI := none
  draws := 0
  cfg := resetConfig

end Sys2Proof.Machine
end

