-- ==== Sys2Proof/Machine/Flags.lean ====
section
/-! DEFINITION. Every computation of a result and its flags the spec gives: binary and decimal addition and
subtraction, comparison, shifts and rotates. Pure functions of bytes. -/

namespace Sys2Proof.Machine

/-- The bit of PS a flag stands at (R34). -/
def Flag.index : Flag → Nat
  | .n => 7
  | .v => 6
  | .t => 5
  | .b => 4
  | .d => 3
  | .i => 2
  | .z => 1
  | .c => 0

/-- What ADC and SBC compute: the result and the four flags they write. -/
structure AluResult where
  result : Byte
  c : Bool
  v : Bool
  n : Bool
  z : Bool
  deriving DecidableEq, Repr

/-- The signed result lies outside -128..+127 (R41, R181). -/
def signedOverflow (r : Int) : Bool := decide (r > 127) || decide (r < -128)

/-- `add_bin(P, M, c)` (R181), from the exact sum. -/
def addBin (p m : Byte) (c : Bool) : AluResult :=
  let sum9 := p.toNat + m.toNat + c.toNat
  let result := BitVec.ofNat 8 sum9
  { result
    c := decide (sum9 > 255)
    v := signedOverflow (p.toInt + m.toInt + c.toNat)
    n := bitOf result 7
    z := result == 0#8 }

/-- `sub_bin(P, M, c)` (R181), from the exact difference; the borrow is `1 - c`. -/
def subBin (p m : Byte) (c : Bool) : AluResult :=
  let borrow := (!c).toNat
  let diff : Int := p.toNat - m.toNat - borrow
  let result := BitVec.ofInt 8 diff
  { result
    c := decide (diff ≥ 0)
    v := signedOverflow (p.toInt - m.toInt - borrow)
    n := bitOf result 7
    z := result == 0#8 }

/-- `v` is a valid decimal numeral: both digits at most 9 (R182). -/
def isDecimal (v : Byte) : Bool := decide (v.toNat / 16 ≤ 9) && decide (v.toNat % 16 ≤ 9)

/-- `dec(v)` (R182). -/
def decValue (v : Byte) : Nat := 10 * (v.toNat / 16) + v.toNat % 16

/-- `bcd(n)` for `n ≤ 99` (R182). -/
def bcd (n : Nat) : Byte := BitVec.ofNat 8 (16 * (n / 10) + n % 10)

/-- The decimal-mode result: N, V and Z are invalid and so drawn, always; an operand that is no decimal numeral makes
the result and C draws too (R182, D14, log 19). `n` is the draw counter. -/
def decimalResult (n : Nat) (valid : Bool) (result : Byte) (c : Bool) : AluResult where
  result := if valid then result else Config.freeByte .decimalResult n
  c := if valid then c else Config.freeBit .decimalC n
  v := Config.freeBit .decimalV n
  n := Config.freeBit .decimalN n
  z := Config.freeBit .decimalZ n

/-- `add_dec(P, M, c)` (R182). -/
def addDec (n : Nat) (p m : Byte) (c : Bool) : AluResult :=
  let s := decValue p + decValue m + c.toNat
  decimalResult n (isDecimal p && isDecimal m) (bcd (s % 100)) (decide (s > 99))

/-- `sub_dec(P, M, c)` (R182). -/
def subDec (n : Nat) (p m : Byte) (c : Bool) : AluResult :=
  let d : Int := decValue p - decValue m - (!c).toNat
  decimalResult n (isDecimal p && isDecimal m) (bcd (d % 100).toNat) (decide (d ≥ 0))

/-- What a comparison computes (R193): the flags it writes. -/
structure CompareResult where
  c : Bool
  z : Bool
  n : Bool
  deriving DecidableEq, Repr

/-- The comparison `P - M`, binary whatever D holds, with no borrow in (R193). -/
def compareBytes (p m : Byte) : CompareResult :=
  let diff : Int := p.toNat - m.toNat
  { c := decide (diff ≥ 0)
    z := decide (diff = 0)
    n := bitOf (BitVec.ofInt 8 diff) 7 }

/-- ASL: the result and the carry (R217). -/
def shiftLeft (v : Byte) (_c : Bool) : Byte × Bool := (v <<< 1, bitOf v 7)

/-- LSR: the result and the carry (R218). -/
def shiftRight (v : Byte) (_c : Bool) : Byte × Bool := (v >>> 1, bitOf v 0)

/-- ROL: the old carry enters bit 0, the old bit 7 becomes the carry (R219). -/
def rotateLeft (v : Byte) (c : Bool) : Byte × Bool := (setBit (v <<< 1) 0 c, bitOf v 7)

/-- ROR: the old carry enters bit 7, the old bit 0 becomes the carry (R220). -/
def rotateRight (v : Byte) (c : Bool) : Byte × Bool := (setBit (v >>> 1) 7 c, bitOf v 0)

/-- RRF: the two nibbles exchanged (R221). -/
def swapNibbles (v : Byte) : Byte := (v <<< 4) ||| (v >>> 4)

end Sys2Proof.Machine
end

