-- ==== Sys2Proof/Machine/Ops.lean ====
section
/-! DEFINITION. The named operations on the state: memory, flags, stack, program counter, interrupt entry and
return. -/

namespace Sys2Proof.Machine

/-! ## One field at a time -/

/-- Writes the accumulator. -/
def State.setA (s : State) (v : Byte) : State := { s with a := v }

/-- Writes index register X. -/
def State.setX (s : State) (v : Byte) : State := { s with x := v }

/-- Writes index register Y. -/
def State.setY (s : State) (v : Byte) : State := { s with y := v }

/-- Writes the stack pointer. -/
def State.setSP (s : State) (v : Byte) : State := { s with sp := v }

/-- Writes all eight bits of PS. -/
def State.setPS (s : State) (v : Byte) : State := { s with ps := v }

/-- Changes the run state. -/
def State.setRunState (s : State) (r : RunState) : State := { s with runState := r }

/-- Writes one interrupt request bit. -/
def State.setPending (s : State) (k : Nat) (b : Bool) : State := { s with pending := s.pending.set k b }

/-! ## Memory -/

/-- The byte written last at an address, if one was. -/
def Memory.lookup : Memory → Nat → Option Byte
  | [], _ => none
  | (b, v) :: rest, a => if a = b then some v else Memory.lookup rest a

/-- Writes a byte, keeping the addresses strictly rising. -/
def Memory.store : Memory → Nat → Byte → Memory
  | [], a, v => [(a, v)]
  | (b, w) :: rest, a, v =>
    if a < b then (a, v) :: (b, w) :: rest
    else if a = b then (a, v) :: rest
    else (b, w) :: Memory.store rest a v

/-- Whether a region holds an address. -/
def Region.holds (r : Region) (a : Nat) : Bool := decide (r.base ≤ a) && decide (a < r.base + r.size)

/-- The kind of an address in a memory map: that of the first region that holds it; an address in no region is
unmapped (R71, D16, log 6). -/
def regionKind : List Region → Nat → RegionKind
  | [], _ => .unmapped
  | r :: rest, a => if Region.holds r a then r.kind else regionKind rest a

/-- The kind of an address (R71). -/
def State.kindAt (s : State) (a : Word) : RegionKind := regionKind s.cfg.memMap a.toNat

/-- `MemRead(a, 1)` (R11): a RAM or ROM cell gives the byte written last, or the free byte it held at power-on (log
5); a device cell gives what its device supplies and an unmapped address any value (R73, D16, log 8, log 9). -/
def State.read (s : State) (k : Access) (a : Word) : Byte :=
  match s.kindAt a with
  | .ram | .rom =>
    match Memory.lookup s.mem a.toNat with
    | some v => v
    | none => Config.powerOnByte a
  | .device | .unmapped => Config.busByte k s.draws a

/-- `MemWrite(a, 1, v)` (R11): RAM stores the byte; ROM and unmapped addresses ignore it (R71, U13, log 7, log 8); a
write to a device cell goes to the device, whose answer is the environment's (R14, log 9). -/
def State.write (s : State) (a : Word) (v : Byte) : State :=
  { s with
    mem := match s.kindAt a with
      | .ram => Memory.store s.mem a.toNat v
      | .rom | .device | .unmapped => s.mem }

/-- The two-byte pointer at `q` and `q +16 1`, low byte first (R64, R133). -/
def State.pointerAt (s : State) (q : Word) : Word :=
  mkWord (s.read .pointer (q + 1)) (s.read .pointer q)

/-- The two-byte zero-page pointer at `p`; its high byte wraps inside page 0 (R68, R131, D23, log 13). -/
def State.zpPointer (s : State) (p : Byte) : Word :=
  mkWord (s.read .pointer (zeroPage (p + 1))) (s.read .pointer (zeroPage p))

/-- The handler address a vector holds, low byte first (R64, R326). -/
def State.vectorTarget (s : State) (v : Word) : Word :=
  mkWord (s.read .vector (v + 1)) (s.read .vector v)

/-! ## Flags -/

/-- A flag of PS (R34). -/
def State.flag (s : State) (f : Flag) : Bool := bitOf s.ps f.index

/-- Writes one flag of PS and leaves the other seven. -/
def State.setFlag (s : State) (f : Flag) (b : Bool) : State := s.setPS (setBit s.ps f.index b)

/-- `setNZ(v)` (R11). -/
def State.setNZ (s : State) (v : Byte) : State := (s.setFlag .n (bitOf v 7)).setFlag .z (v == 0#8)

/-- The four flags ADC and SBC write (R183). -/
def State.setArith (s : State) (r : AluResult) : State :=
  (((s.setFlag .c r.c).setFlag .v r.v).setFlag .n r.n).setFlag .z r.z

/-- The three flags a comparison writes (R193). -/
def State.setCompare (s : State) (r : CompareResult) : State :=
  ((s.setFlag .c r.c).setFlag .z r.z).setFlag .n r.n

/-! ## Program counter and the end of an instruction -/

/-- The end of an instruction that is no control transfer: `PC <- PC0 +16 len` (R30), and `dec_pending` falls (R150). -/
def State.advance (s : State) (len : Nat) : State :=
  { s with pc := s.pc + BitVec.ofNat 16 len, decPending := false, oldI := none }

/-- The end of a control transfer: `pc <- target` (R30), and `dec_pending` falls (R150). -/
def State.goto (s : State) (target : Word) : State :=
  { s with pc := target, decPending := false, oldI := none }

/-- The end of an instruction after which, for one boundary, the old I may still count (R324, D17): CLI, SEI, PLP. -/
def State.rememberI (s : State) (old : Bool) : State := { s with oldI := some old }

/-- Writes `dec_pending` (R46 (d)). -/
def State.setDecPending (s : State) (b : Bool) : State := { s with decPending := b }

/-! ## Stack -/

/-- `STACK_PAGE` (R25): page 0x00 or 0x01. -/
def State.stackPage (s : State) : Byte := if s.cfg.stackPageBit then 0x01#8 else 0x00#8

/-- The stack address `STACK_PAGE:p` (R24). -/
def State.stackAddr (s : State) (p : Byte) : Word := mkWord s.stackPage p

/-- `push8(v)`: store, then decrement (R27). -/
def State.push8 (s : State) (v : Byte) : State :=
  (s.write (s.stackAddr s.sp) v).setSP (s.sp - 1)

/-- The first half of `pull8()`: increment (R28). -/
def State.popped (s : State) : State := s.setSP (s.sp + 1)

/-- The byte `pull8()` returns, read after the increment (R28). -/
def State.pulled (s : State) : Byte := s.read .stack (s.stackAddr (s.sp + 1))

/-- Pushes bytes one after another. -/
def State.pushAll (s : State) : List Byte → State
  | [] => s
  | v :: rest => (s.push8 v).pushAll rest

/-- The two bytes of a 16-bit value in the order in which they are pushed, the high byte first (R65). -/
def pushOrder (w : Word) : List Byte := [highByte w, lowByte w]

/-- Pushes a 16-bit value, high byte first (R65). -/
def State.pushWord (s : State) (w : Word) : State := s.pushAll (pushOrder w)

/-- The address a subroutine call of `len` bytes saves: that of its own last byte (R273, D22, log 23). -/
def State.returnAddress (s : State) (len : Nat) : Word := s.pc + BitVec.ofNat 16 (len - 1)

/-- The word two pulls return, low byte first (R284, R285). -/
def State.pulledWord (s : State) : Word := mkWord s.popped.pulled s.pulled

/-! ## T mode -/

/-- The first operand `P` of a T-aware instruction: A, or the byte M(X) at `0x00:X` when T is 1 (R180). -/
def State.firstOperand (s : State) : Byte :=
  if s.flag .t then s.read .target (zeroPage s.x) else s.a

/-- Writes the result of a T-aware instruction: to A, or to M(X) when T is 1 (R180). -/
def State.writeResult (s : State) (r : Byte) : State :=
  if s.flag .t then s.write (zeroPage s.x) r else s.setA r

/-! ## Interrupts -/

/-- The three bytes the interrupt sequence pushes, in its order: PCH, PCL, and PS with B and the old I (R326, R328). -/
def State.entryBytes (s : State) (b : Bool) (ret : Word) : List Byte := pushOrder ret ++ [(s.setFlag .b b).ps]

/-- The interrupt sequence of R326, for a device request (`b` is 0) and for BRK (`b` is 1): B is written, PCH, PCL
and PS are pushed, PS with the old I, then I is set and the PC is read from the vector. T and D are kept (R327). -/
def State.enterInterrupt (s : State) (b : Bool) (ret vector : Word) : State :=
  let s1 := (s.setFlag .b b).pushAll (s.entryBytes b ret)
  let s2 := s1.setFlag .i true
  (s2.goto (s2.vectorTarget vector)).setRunState .running

/-- The return from interrupt (R284, R329): PS, PCL, PCH are pulled; the PC is not adjusted. -/
def State.returnFromInterrupt (s : State) : State :=
  let s1 := s.popped.setPS s.pulled
  (s1.popped.popped.goto s1.pulledWord).rememberI (s.flag .i)

/-- The requests that reach the CPU: `pending[k] and enabled[k]` (R322), highest priority first (R325). -/
def State.reaching (s : State) : List Nat :=
  (List.range s.cfg.irqTable.length).filter fun k => s.pending.getD k false && s.enabled.getD k false

/-- The vector address of source `k` (R322). -/
def State.vectorOf (s : State) (k : Nat) : Word :=
  match s.cfg.irqTable[k]? with
  | some e => e.vector
  | none => s.cfg.brkVector

/-- Whether source `k` works without the clock (R302). -/
def State.wakesStop (s : State) (k : Nat) : Bool :=
  match s.cfg.irqTable[k]? with
  | some e => e.wakesStop
  | none => false

/-- The requests that qualify in the present run state: in `stopped` only those of sources that work without the clock
(R302, R324). -/
def State.qualifying (s : State) : List Nat :=
  s.reaching.filter fun k => s.runState != .stopped || s.wakesStop k

/-- Whether I lets a request through at this boundary: I is 0, or it was 0 before the CLI, SEI, PLP or RTI just
completed (R323, R324, D17, log 15). It masks every source of IRQ_TABLE, as R321 says; that the part has no other one, no
non-maskable interrupt pin, which R321 leaves to the device, is the model's choice (DESIGN CHOICE, log 36). -/
def State.irqOpen (s : State) : Bool := !s.flag .i || s.oldI == some false

/-- The request taken at this boundary, if one is. The highest-ranked qualifying request may be taken; that it is, is
a free choice, since the source gives no latency (R324, R325, D17, log 15). -/
def State.acceptedRequest (s : State) : Option Nat :=
  match s.qualifying with
  | [] => none
  | k :: _ => if s.irqOpen && Config.freeBit .acceptRequest s.draws then some k else none

/-- Interrupt entry for source `k` (R326): the saved PC is the next instruction's address, B is pushed as 0, and the
request bit is cleared. -/
def State.interruptEntry (s : State) (k : Nat) : State :=
  (s.enterInterrupt false s.pc (s.vectorOf k)).setPending k false

/-- The vectors BRK may use: its own and, while requests reach the CPU, theirs (R300 (c), D25). -/
def State.brkVectors (s : State) : List Word := s.cfg.brkVector :: s.reaching.map s.vectorOf

/-- The vector BRK uses: its own when no request reaches the CPU, otherwise a free choice (R300 (c), log 17). -/
def State.brkVectorUsed (s : State) : Word :=
  match s.reaching with
  | [] => s.cfg.brkVector
  | _ :: _ => s.brkVectors.getD (Config.freeIndex s.draws % s.brkVectors.length) s.cfg.brkVector

/-! ## The draw counter -/

/-- One step has passed: the next step's draws are new ones (log 11). -/
def State.tick (s : State) : State := { s with draws := s.draws + 1 }

/-- `tick` on the next state of an answer. -/
def tickResult : Result → Result
  | .next s => .next s.tick
  | .fault r => .fault r
  | .refused r => .refused r

end Sys2Proof.Machine
end

