-- ==== Sys2Proof/Machine/Operands.lean ====
section
/-! DEFINITION. The operand forms: the data addressing modes of 40_addressing_modes.md, written once. The forms that
only jumps and bit instructions use are in their families' files. -/

namespace Sys2Proof.Machine

/-- An operand in one of the data addressing modes, with its operand bytes. -/
inductive Operand where
  | /-- Immediate (R121) -/ imm (v : Byte)
  | /-- Accumulator (R122) -/ acc
  | /-- Zero Page (R123) -/ zp (z : Byte)
  | /-- Zero Page X (R124) -/ zpx (z : Byte)
  | /-- Zero Page Y (R125) -/ zpy (z : Byte)
  | /-- Absolute (R126) -/ abs (w : Word)
  | /-- Absolute X (R127) -/ absx (w : Word)
  | /-- Absolute Y (R128) -/ absy (w : Word)
  | /-- Indirect X (R131) -/ indx (z : Byte)
  | /-- Indirect Y (R132) -/ indy (z : Byte)
  deriving DecidableEq, Repr

/-- `EA_<mode>()` (R141); Immediate and Accumulator have no effective address. -/
def Operand.ea (o : Operand) (s : State) : Option Word :=
  match o with
  | .imm _ => none
  | .acc => none
  | .zp z => some (zeroPage z)
  | .zpx z => some (zeroPage (z + s.x))
  | .zpy z => some (zeroPage (z + s.y))
  | .abs w => some w
  | .absx w => some (w + zext16 s.x)
  | .absy w => some (w + zext16 s.y)
  | .indx z => some (s.zpPointer (z + s.x))
  | .indy z => some (s.zpPointer z + zext16 s.y)

/-- `len` (R93, R141). -/
def Operand.len : Operand → Nat
  | .acc => 1
  | .abs _ | .absx _ | .absy _ => 3
  | .imm _ | .zp _ | .zpx _ | .zpy _ | .indx _ | .indy _ => 2

/-- The operand value `M`: the byte at the effective address, or the immediate byte, or A (R150, R210). -/
def Operand.value (o : Operand) (s : State) : Byte :=
  match o.ea s with
  | some a => s.read .operand a
  | none =>
    match o with
    | .imm v => v
    | _ => s.a

/-- Writes a result back to the operand: to the effective address in a memory mode, to A in Accumulator mode (R210).
An immediate operand cannot be a destination (R121); no instruction makes it one. -/
def Operand.put (o : Operand) (s : State) (v : Byte) : State :=
  match o.ea s with
  | some a => s.write a v
  | none =>
    match o with
    | .acc => s.setA v
    | _ => s

end Sys2Proof.Machine
end

