-- ==== Sys2Proof/Machine/Arithmetic.lean ====
section
/-! DEFINITION. Arithmetic instructions (42_operating_arithmetic.md): the shared operations, then one meaning for each
row of the opcode table. -/

namespace Sys2Proof.Machine

/-- The common part of ADC and SBC (R180, R183, R184): the first operand and the destination by T, decimal or binary by
D, the four flags, `dec_pending`. `bin` and `dec` are the two computations. -/
def opAddSub (bin : Byte → Byte → Bool → AluResult) (dec : Nat → Byte → Byte → Bool → AluResult) (o : Operand)
    (s : State) : Result :=
  let m := o.value s
  let p := s.firstOperand
  let r := if s.flag .d then dec s.draws p m (s.flag .c) else bin p m (s.flag .c)
  .next ((((s.writeResult r.result).setArith r).advance o.len).setDecPending (s.flag .d))

/-- ADC (R183). -/
def opAdc (o : Operand) (s : State) : Result := opAddSub addBin addDec o s

/-- SBC (R184). -/
def opSbc (o : Operand) (s : State) : Result := opAddSub subBin subDec o s

/-- INC (R185). -/
def opInc (o : Operand) (s : State) : Result :=
  let r := o.value s + 1
  .next (((o.put s r).setNZ r).advance o.len)

/-- DEC (R186). -/
def opDec (o : Operand) (s : State) : Result :=
  let r := o.value s - 1
  .next (((o.put s r).setNZ r).advance o.len)

/-- CMP, CPX, CPY (R193 to R195): the comparison of `p` with the operand; nothing is stored. -/
def opCompare (p : Byte) (o : Operand) (s : State) : Result :=
  .next ((s.setCompare (compareBytes p (o.value s))).advance o.len)

/-- MUL (R191): the low byte of the product goes to A, the high byte is pushed; no flag. -/
def opMul (zz : Byte) (s : State) : Result :=
  if s.cfg.hasMulDiv then
    let m := (Operand.zpx zz).value s
    let prod := BitVec.ofNat 16 (s.a.toNat * m.toNat)
    .next (((s.setA (lowByte prod)).push8 (highByte prod)).advance 2)
  else .refused (.undefinedOpcode 0x62#8)

/-- The quotient and the byte DIV pushes, the one's complement of the remainder; both are draws when the divisor is 0
or the quotient is above 255 (R192, D24, log 21). `n` is the draw counter. -/
def divResult (n : Nat) (dividend divisor : Nat) : Byte × Byte :=
  if divisor = 0 ∨ dividend / divisor > 255 then
    (Config.freeByte .quotient n, Config.freeByte .remainder n)
  else (BitVec.ofNat 8 (dividend / divisor), ~~~(BitVec.ofNat 8 (dividend % divisor)))

/-- DIV (R192): the word at `zz + X` divided by A; the quotient goes to A, the complemented remainder is pushed; no
flag. -/
def opDiv (zz : Byte) (s : State) : Result :=
  if s.cfg.hasMulDiv then
    let at0 := zz + s.x
    if at0 == 0xFF#8 then .refused .divOperandWraps
    else
      let lo := s.read .operand (zeroPage at0)
      let hi := s.read .operand (zeroPage (at0 + 1))
      let r := divResult s.draws (mkWord hi lo).toNat s.a.toNat
      .next (((s.setA r.1).push8 r.2).advance 2)
  else .refused (.undefinedOpcode 0xE2#8)

/-- ADC (zz,X), `61 zz` (R183, R131). -/
def execAdcIndx (zz : Byte) (s : State) : Result := opAdc (.indx zz) s

/-- ADC zz, `65 zz` (R183, R123). -/
def execAdcZp (zz : Byte) (s : State) : Result := opAdc (.zp zz) s

/-- ADC #imm, `69 ii` (R183, R121). -/
def execAdcImm (imm : Byte) (s : State) : Result := opAdc (.imm imm) s

/-- ADC addr, `6D ll hh` (R183, R126). -/
def execAdcAbs (addr : Word) (s : State) : Result := opAdc (.abs addr) s

/-- ADC (zz),Y, `71 zz` (R183, R132). -/
def execAdcIndy (zz : Byte) (s : State) : Result := opAdc (.indy zz) s

/-- ADC zz,X, `75 zz` (R183, R124). -/
def execAdcZpx (zz : Byte) (s : State) : Result := opAdc (.zpx zz) s

/-- ADC addr,Y, `79 ll hh` (R183, R128). -/
def execAdcAbsy (addr : Word) (s : State) : Result := opAdc (.absy addr) s

/-- ADC addr,X, `7D ll hh` (R183, R127). -/
def execAdcAbsx (addr : Word) (s : State) : Result := opAdc (.absx addr) s

/-- SBC (zz,X), `E1 zz` (R184, R131). -/
def execSbcIndx (zz : Byte) (s : State) : Result := opSbc (.indx zz) s

/-- SBC zz, `E5 zz` (R184, R123). -/
def execSbcZp (zz : Byte) (s : State) : Result := opSbc (.zp zz) s

/-- SBC #imm, `E9 ii` (R184, R121). -/
def execSbcImm (imm : Byte) (s : State) : Result := opSbc (.imm imm) s

/-- SBC addr, `ED ll hh` (R184, R126). -/
def execSbcAbs (addr : Word) (s : State) : Result := opSbc (.abs addr) s

/-- SBC (zz),Y, `F1 zz` (R184, R132). -/
def execSbcIndy (zz : Byte) (s : State) : Result := opSbc (.indy zz) s

/-- SBC zz,X, `F5 zz` (R184, R124). -/
def execSbcZpx (zz : Byte) (s : State) : Result := opSbc (.zpx zz) s

/-- SBC addr,Y, `F9 ll hh` (R184, R128). -/
def execSbcAbsy (addr : Word) (s : State) : Result := opSbc (.absy addr) s

/-- SBC addr,X, `FD ll hh` (R184, R127). -/
def execSbcAbsx (addr : Word) (s : State) : Result := opSbc (.absx addr) s

/-- INC A, `3A` (R185, R122). -/
def execIncAcc (s : State) : Result := opInc .acc s

/-- INC zz, `E6 zz` (R185, R123). -/
def execIncZp (zz : Byte) (s : State) : Result := opInc (.zp zz) s

/-- INC addr, `EE ll hh` (R185, R126). -/
def execIncAbs (addr : Word) (s : State) : Result := opInc (.abs addr) s

/-- INC zz,X, `F6 zz` (R185, R124). -/
def execIncZpx (zz : Byte) (s : State) : Result := opInc (.zpx zz) s

/-- INC addr,X, `FE ll hh` (R185, R127). -/
def execIncAbsx (addr : Word) (s : State) : Result := opInc (.absx addr) s

/-- DEC A, `1A` (R186, R122). -/
def execDecAcc (s : State) : Result := opDec .acc s

/-- DEC zz, `C6 zz` (R186, R123). -/
def execDecZp (zz : Byte) (s : State) : Result := opDec (.zp zz) s

/-- DEC addr, `CE ll hh` (R186, R126). -/
def execDecAbs (addr : Word) (s : State) : Result := opDec (.abs addr) s

/-- DEC zz,X, `D6 zz` (R186, R124). -/
def execDecZpx (zz : Byte) (s : State) : Result := opDec (.zpx zz) s

/-- DEC addr,X, `DE ll hh` (R186, R127). -/
def execDecAbsx (addr : Word) (s : State) : Result := opDec (.absx addr) s

/-- INX, `E8` (R187, R129): N, Z. -/
def execInx (s : State) : Result := .next (((s.setX (s.x + 1)).setNZ (s.x + 1)).advance 1)

/-- DEX, `CA` (R188, R129): N, Z. -/
def execDex (s : State) : Result := .next (((s.setX (s.x - 1)).setNZ (s.x - 1)).advance 1)

/-- INY, `C8` (R189, R129): N, Z. -/
def execIny (s : State) : Result := .next (((s.setY (s.y + 1)).setNZ (s.y + 1)).advance 1)

/-- DEY, `88` (R190, R129): N, Z. -/
def execDey (s : State) : Result := .next (((s.setY (s.y - 1)).setNZ (s.y - 1)).advance 1)

/-- MUL zz,X, `62 zz` (R191, R124). -/
def execMulZpx (zz : Byte) (s : State) : Result := opMul zz s

/-- DIV zz,X, `E2 zz` (R192, R124). -/
def execDivZpx (zz : Byte) (s : State) : Result := opDiv zz s

/-- CMP (zz,X), `C1 zz` (R193, R131). -/
def execCmpIndx (zz : Byte) (s : State) : Result := opCompare s.firstOperand (.indx zz) s

/-- CMP zz, `C5 zz` (R193, R123). -/
def execCmpZp (zz : Byte) (s : State) : Result := opCompare s.firstOperand (.zp zz) s

/-- CMP #imm, `C9 ii` (R193, R121). -/
def execCmpImm (imm : Byte) (s : State) : Result := opCompare s.firstOperand (.imm imm) s

/-- CMP addr, `CD ll hh` (R193, R126). -/
def execCmpAbs (addr : Word) (s : State) : Result := opCompare s.firstOperand (.abs addr) s

/-- CMP (zz),Y, `D1 zz` (R193, R132). -/
def execCmpIndy (zz : Byte) (s : State) : Result := opCompare s.firstOperand (.indy zz) s

/-- CMP zz,X, `D5 zz` (R193, R124). -/
def execCmpZpx (zz : Byte) (s : State) : Result := opCompare s.firstOperand (.zpx zz) s

/-- CMP addr,Y, `D9 ll hh` (R193, R128). -/
def execCmpAbsy (addr : Word) (s : State) : Result := opCompare s.firstOperand (.absy addr) s

/-- CMP addr,X, `DD ll hh` (R193, R127). -/
def execCmpAbsx (addr : Word) (s : State) : Result := opCompare s.firstOperand (.absx addr) s

/-- CPX #imm, `E0 ii` (R194, R121). -/
def execCpxImm (imm : Byte) (s : State) : Result := opCompare s.x (.imm imm) s

/-- CPX zz, `E4 zz` (R194, R123). -/
def execCpxZp (zz : Byte) (s : State) : Result := opCompare s.x (.zp zz) s

/-- CPX addr, `EC ll hh` (R194, R126). -/
def execCpxAbs (addr : Word) (s : State) : Result := opCompare s.x (.abs addr) s

/-- CPY #imm, `C0 ii` (R195, R121). -/
def execCpyImm (imm : Byte) (s : State) : Result := opCompare s.y (.imm imm) s

/-- CPY zz, `C4 zz` (R195, R123). -/
def execCpyZp (zz : Byte) (s : State) : Result := opCompare s.y (.zp zz) s

/-- CPY addr, `CC ll hh` (R195, R126). -/
def execCpyAbs (addr : Word) (s : State) : Result := opCompare s.y (.abs addr) s

end Sys2Proof.Machine
end

