-- ==== Sys2Proof/Machine/BitManaging.lean ====
section
/-! DEFINITION. Bit managing instructions (44_bit_managing.md): the shared operation, then one meaning for each row of
the opcode table. -/

namespace Sys2Proof.Machine

/-- CLB and SEB (R240 to R242): one bit of the operand is written, one read and then one write; no flag. -/
def opWriteBit (b : BitNo) (v : Bool) (o : Operand) (s : State) : Result :=
  .next ((o.put s (setBit (o.value s) b.toNat v)).advance o.len)

/-- CLB b,A, `1B+20b` (R241, R138). -/
def execClbAcc (b : BitNo) (s : State) : Result := opWriteBit b false .acc s

/-- CLB b,zz, `1F+20b zz` (R241, R137). -/
def execClbZp (b : BitNo) (zz : Byte) (s : State) : Result := opWriteBit b false (.zp zz) s

/-- SEB b,A, `0B+20b` (R242, R138). -/
def execSebAcc (b : BitNo) (s : State) : Result := opWriteBit b true .acc s

/-- SEB b,zz, `0F+20b zz` (R242, R137). -/
def execSebZp (b : BitNo) (zz : Byte) (s : State) : Result := opWriteBit b true (.zp zz) s

end Sys2Proof.Machine
end

