-- ==== Sys2Proof/Machine/DataTransfer.lean ====
section
/-! DEFINITION. Data transfer instructions (41_data_transfer.md): the shared operations, then one meaning for each row
of the opcode table. -/

namespace Sys2Proof.Machine

/-- LDA (R151): M goes to A, or to M(X) when T is 1; N and Z from M. -/
def opLda (o : Operand) (s : State) : Result :=
  let m := o.value s
  .next (((s.writeResult m).setNZ m).advance o.len)

/-- LDX (R153). -/
def opLdx (o : Operand) (s : State) : Result :=
  let m := o.value s
  .next (((s.setX m).setNZ m).advance o.len)

/-- LDY (R154). -/
def opLdy (o : Operand) (s : State) : Result :=
  let m := o.value s
  .next (((s.setY m).setNZ m).advance o.len)

/-- STA, STX, STY (R155 to R157): the register's byte goes to the effective address; no flag. -/
def opStore (v : Byte) (o : Operand) (s : State) : Result :=
  .next ((o.put s v).advance o.len)

/-- LDA (zz,X), `A1 zz` (R151, R131). -/
def execLdaIndx (zz : Byte) (s : State) : Result := opLda (.indx zz) s

/-- LDA zz, `A5 zz` (R151, R123). -/
def execLdaZp (zz : Byte) (s : State) : Result := opLda (.zp zz) s

/-- LDA #imm, `A9 ii` (R151, R121). -/
def execLdaImm (imm : Byte) (s : State) : Result := opLda (.imm imm) s

/-- LDA addr, `AD ll hh` (R151, R126). -/
def execLdaAbs (addr : Word) (s : State) : Result := opLda (.abs addr) s

/-- LDA (zz),Y, `B1 zz` (R151, R132). -/
def execLdaIndy (zz : Byte) (s : State) : Result := opLda (.indy zz) s

/-- LDA zz,X, `B5 zz` (R151, R124). -/
def execLdaZpx (zz : Byte) (s : State) : Result := opLda (.zpx zz) s

/-- LDA addr,Y, `B9 ll hh` (R151, R128). -/
def execLdaAbsy (addr : Word) (s : State) : Result := opLda (.absy addr) s

/-- LDA addr,X, `BD ll hh` (R151, R127). -/
def execLdaAbsx (addr : Word) (s : State) : Result := opLda (.absx addr) s

/-- LDM #imm,zz, `3C ii zz` (R152, R123): the immediate byte goes to the zero-page cell; no flag. -/
def execLdm (imm : Byte) (zz : Byte) (s : State) : Result := .next ((s.write (zeroPage zz) imm).advance 3)

/-- LDX #imm, `A2 ii` (R153, R121). -/
def execLdxImm (imm : Byte) (s : State) : Result := opLdx (.imm imm) s

/-- LDX zz, `A6 zz` (R153, R123). -/
def execLdxZp (zz : Byte) (s : State) : Result := opLdx (.zp zz) s

/-- LDX addr, `AE ll hh` (R153, R126). -/
def execLdxAbs (addr : Word) (s : State) : Result := opLdx (.abs addr) s

/-- LDX zz,Y, `B6 zz` (R153, R125). -/
def execLdxZpy (zz : Byte) (s : State) : Result := opLdx (.zpy zz) s

/-- LDX addr,Y, `BE ll hh` (R153, R128). -/
def execLdxAbsy (addr : Word) (s : State) : Result := opLdx (.absy addr) s

/-- LDY #imm, `A0 ii` (R154, R121). -/
def execLdyImm (imm : Byte) (s : State) : Result := opLdy (.imm imm) s

/-- LDY zz, `A4 zz` (R154, R123). -/
def execLdyZp (zz : Byte) (s : State) : Result := opLdy (.zp zz) s

/-- LDY addr, `AC ll hh` (R154, R126). -/
def execLdyAbs (addr : Word) (s : State) : Result := opLdy (.abs addr) s

/-- LDY zz,X, `B4 zz` (R154, R124). -/
def execLdyZpx (zz : Byte) (s : State) : Result := opLdy (.zpx zz) s

/-- LDY addr,X, `BC ll hh` (R154, R127). -/
def execLdyAbsx (addr : Word) (s : State) : Result := opLdy (.absx addr) s

/-- STA (zz,X), `81 zz` (R155, R131). -/
def execStaIndx (zz : Byte) (s : State) : Result := opStore s.a (.indx zz) s

/-- STA zz, `85 zz` (R155, R123). -/
def execStaZp (zz : Byte) (s : State) : Result := opStore s.a (.zp zz) s

/-- STA addr, `8D ll hh` (R155, R126). -/
def execStaAbs (addr : Word) (s : State) : Result := opStore s.a (.abs addr) s

/-- STA (zz),Y, `91 zz` (R155, R132). -/
def execStaIndy (zz : Byte) (s : State) : Result := opStore s.a (.indy zz) s

/-- STA zz,X, `95 zz` (R155, R124). -/
def execStaZpx (zz : Byte) (s : State) : Result := opStore s.a (.zpx zz) s

/-- STA addr,Y, `99 ll hh` (R155, R128). -/
def execStaAbsy (addr : Word) (s : State) : Result := opStore s.a (.absy addr) s

/-- STA addr,X, `9D ll hh` (R155, R127). -/
def execStaAbsx (addr : Word) (s : State) : Result := opStore s.a (.absx addr) s

/-- STX zz, `86 zz` (R156, R123). -/
def execStxZp (zz : Byte) (s : State) : Result := opStore s.x (.zp zz) s

/-- STX addr, `8E ll hh` (R156, R126). -/
def execStxAbs (addr : Word) (s : State) : Result := opStore s.x (.abs addr) s

/-- STX zz,Y, `96 zz` (R156, R125). -/
def execStxZpy (zz : Byte) (s : State) : Result := opStore s.x (.zpy zz) s

/-- STY zz, `84 zz` (R157, R123). -/
def execStyZp (zz : Byte) (s : State) : Result := opStore s.y (.zp zz) s

/-- STY addr, `8C ll hh` (R157, R126). -/
def execStyAbs (addr : Word) (s : State) : Result := opStore s.y (.abs addr) s

/-- STY zz,X, `94 zz` (R157, R124). -/
def execStyZpx (zz : Byte) (s : State) : Result := opStore s.y (.zpx zz) s

/-- TAX, `AA` (R158, R129): A to X; N, Z. -/
def execTax (s : State) : Result := .next (((s.setX s.a).setNZ s.a).advance 1)

/-- TXA, `8A` (R159, R129): X to A; N, Z. -/
def execTxa (s : State) : Result := .next (((s.setA s.x).setNZ s.x).advance 1)

/-- TAY, `A8` (R160, R129): A to Y; N, Z. -/
def execTay (s : State) : Result := .next (((s.setY s.a).setNZ s.a).advance 1)

/-- TYA, `98` (R161, R129): Y to A; N, Z. -/
def execTya (s : State) : Result := .next (((s.setA s.y).setNZ s.y).advance 1)

/-- TSX, `BA` (R162, R129): S to X; N, Z. -/
def execTsx (s : State) : Result := .next (((s.setX s.sp).setNZ s.sp).advance 1)

/-- TXS, `9A` (R163, R129): X to S; no flag. -/
def execTxs (s : State) : Result := .next ((s.setSP s.x).advance 1)

/-- PHA, `48` (R164, R129): A is pushed; no flag. -/
def execPha (s : State) : Result := .next ((s.push8 s.a).advance 1)

/-- PHP, `08` (R165, R129): all eight bits of PS are pushed as held. -/
def execPhp (s : State) : Result := .next ((s.push8 s.ps).advance 1)

/-- PLA, `68` (R166, R129): A is pulled; N, Z. -/
def execPla (s : State) : Result := .next (((s.popped.setA s.pulled).setNZ s.pulled).advance 1)

/-- PLP, `28` (R167, R129): PS is pulled, all eight bits; at the boundary right after, the old I may still count (D17). -/
def execPlp (s : State) : Result := .next (((s.popped.setPS s.pulled).advance 1).rememberI (s.flag .i))

end Sys2Proof.Machine
end

