-- ==== Sys2Proof/Machine/FlagSetting.lean ====
section
/-! DEFINITION. Flag setting instructions (45_flag_setting.md): the shared operations, then one meaning for each row of
the opcode table. -/

namespace Sys2Proof.Machine

/-- SED, CLT, SET, CLV (R250): one flag is written. -/
def opSetFlag (f : Flag) (v : Bool) (s : State) : Result :=
  .next ((s.setFlag f v).advance 1)

/-- CLC, SEC, CLD (R251 to R253): one flag is written, but right after a decimal-mode ADC or SBC the instruction leaves
draws in C and D instead (R368, D14, log 19). -/
def opSetFlagAfterDecimal (f : Flag) (v : Bool) (s : State) : Result :=
  if s.decPending then
    .next (((s.setFlag .c (Config.freeBit .hazardC s.draws)).setFlag .d (Config.freeBit .hazardD s.draws)).advance 1)
  else .next ((s.setFlag f v).advance 1)

/-- CLI, SEI (R255, R256): I is written; at the boundary right after, the old I may still count (R324, D17, log 15). -/
def opSetI (v : Bool) (s : State) : Result :=
  .next (((s.setFlag .i v).advance 1).rememberI (s.flag .i))

/-- CLC, `18` (R251, R129). -/
def execClc (s : State) : Result := opSetFlagAfterDecimal .c false s

/-- SEC, `38` (R252, R129). -/
def execSec (s : State) : Result := opSetFlagAfterDecimal .c true s

/-- CLD, `D8` (R253, R129). -/
def execCld (s : State) : Result := opSetFlagAfterDecimal .d false s

/-- SED, `F8` (R254, R129). -/
def execSed (s : State) : Result := opSetFlag .d true s

/-- CLI, `58` (R255, R129). -/
def execCli (s : State) : Result := opSetI false s

/-- SEI, `78` (R256, R129). -/
def execSei (s : State) : Result := opSetI true s

/-- CLT, `12` (R257, R129). -/
def execClt (s : State) : Result := opSetFlag .t false s

/-- SET, `32` (R258, R129). -/
def execSet (s : State) : Result := opSetFlag .t true s

/-- CLV, `B8` (R259, R129). -/
def execClv (s : State) : Result := opSetFlag .v false s

end Sys2Proof.Machine
end

