-- ==== Sys2Proof/Machine/JumpBranch.lean ====
section
/-! DEFINITION. Jump, branch and return instructions (46_jump_branch_return.md): the shared operations, then one
meaning for each row of the opcode table. -/

namespace Sys2Proof.Machine

/-- The target of a relative branch: the next instruction's address plus the signed displacement (R130, R139, R140). -/
def State.branchTarget (s : State) (len : Nat) (disp : Byte) : Word := s.pc + BitVec.ofNat 16 len + sext16 disp

/-- A conditional branch (R274 to R283). -/
def opBranch (taken : Bool) (len : Nat) (disp : Byte) (s : State) : Result :=
  .next (if taken then s.goto (s.branchTarget len disp) else s.advance len)

/-- BBC and BBS (R274, R275): the branch is taken when the bit is `v`; the tested byte is not modified. -/
def opBranchBit (b : BitNo) (v : Bool) (o : Operand) (len : Nat) (disp : Byte) (s : State) : Result :=
  opBranch (bitOf (o.value s) b.toNat == v) len disp s

/-- JSR (R273): the address of the instruction's last byte is pushed, PCH first; then the target is formed, after the
pushes (D20, log 23). -/
def opJsr (len : Nat) (target : State → Word) (s : State) : Result :=
  let s1 := s.pushWord (s.returnAddress len)
  .next (s1.goto (target s1))

/-- JMP addr, `4C ll hh` (R271, R126). -/
def execJmpAbs (addr : Word) (s : State) : Result := .next (s.goto addr)

/-- JMP (addr), `6C ll hh` (R271, R133). -/
def execJmpInd (addr : Word) (s : State) : Result :=
  if lowByte addr == 0xFF#8 then .refused .jmpIndirectPageEnd
  else .next (s.goto (s.pointerAt addr))

/-- JMP (zz), `B2 zz` (R271, R135). -/
def execJmpZpind (zz : Byte) (s : State) : Result := .next (s.goto (s.zpPointer zz))

/-- BRA rel, `80 rr` (R272, R130): branch always. -/
def execBra (disp : Byte) (s : State) : Result := .next (s.goto (s.branchTarget 2 disp))

/-- JSR (zz), `02 zz` (R273, R135). -/
def execJsrZpind (zz : Byte) (s : State) : Result := opJsr 2 (fun s1 => s1.zpPointer zz) s

/-- JSR addr, `20 ll hh` (R273, R126). -/
def execJsrAbs (addr : Word) (s : State) : Result := opJsr 3 (fun _ => addr) s

/-- JSR sp, `22 pp` (R273, R136). -/
def execJsrSp (pp : Byte) (s : State) : Result := opJsr 2 (fun _ => specialPage pp) s

/-- RTS, `60` (R285, R129): PCL and PCH are pulled; one is added. -/
def execRts (s : State) : Result := .next (s.popped.popped.goto (s.pulledWord + 1))

/-- RTI, `40` (R284, R129): return from interrupt. -/
def execRti (s : State) : Result := .next s.returnFromInterrupt

/-- BBC b,A,rel, `13+20b rr` (R274, R139). -/
def execBbcAcc (b : BitNo) (disp : Byte) (s : State) : Result := opBranchBit b false .acc 2 disp s

/-- BBC b,zz,rel, `17+20b zz rr` (R274, R140). -/
def execBbcZp (b : BitNo) (zz : Byte) (disp : Byte) (s : State) : Result := opBranchBit b false (.zp zz) 3 disp s

/-- BBS b,A,rel, `03+20b rr` (R275, R139). -/
def execBbsAcc (b : BitNo) (disp : Byte) (s : State) : Result := opBranchBit b true .acc 2 disp s

/-- BBS b,zz,rel, `07+20b zz rr` (R275, R140). -/
def execBbsZp (b : BitNo) (zz : Byte) (disp : Byte) (s : State) : Result := opBranchBit b true (.zp zz) 3 disp s

/-- BCC rel, `90 rr` (R276, R130). -/
def execBcc (disp : Byte) (s : State) : Result := opBranch (!s.flag .c) 2 disp s

/-- BCS rel, `B0 rr` (R277, R130). -/
def execBcs (disp : Byte) (s : State) : Result := opBranch (s.flag .c) 2 disp s

/-- BNE rel, `D0 rr` (R278, R130). -/
def execBne (disp : Byte) (s : State) : Result := opBranch (!s.flag .z) 2 disp s

/-- BEQ rel, `F0 rr` (R279, R130). -/
def execBeq (disp : Byte) (s : State) : Result := opBranch (s.flag .z) 2 disp s

/-- BPL rel, `10 rr` (R280, R130). -/
def execBpl (disp : Byte) (s : State) : Result := opBranch (!s.flag .n) 2 disp s

/-- BMI rel, `30 rr` (R281, R130). -/
def execBmi (disp : Byte) (s : State) : Result := opBranch (s.flag .n) 2 disp s

/-- BVC rel, `50 rr` (R282, R130). -/
def execBvc (disp : Byte) (s : State) : Result := opBranch (!s.flag .v) 2 disp s

/-- BVS rel, `70 rr` (R283, R130). -/
def execBvs (disp : Byte) (s : State) : Result := opBranch (s.flag .v) 2 disp s

end Sys2Proof.Machine
end

