-- ==== Sys2Proof/Machine/LogicShift.lean ====
section
/-! DEFINITION. Logic, test, shift and rotate instructions (43_operating_logic_shift.md): the shared operations, then
one meaning for each row of the opcode table. -/

namespace Sys2Proof.Machine

/-- AND, ORA, EOR (R210 to R213): the first operand and the destination by T; N and Z. -/
def opLogic (f : Byte → Byte → Byte) (o : Operand) (s : State) : Result :=
  let r := f s.firstOperand (o.value s)
  .next (((s.writeResult r).setNZ r).advance o.len)

/-- AND (R211). -/
def opAnd (o : Operand) (s : State) : Result := opLogic (fun p m => p &&& m) o s

/-- ORA (R212). -/
def opOra (o : Operand) (s : State) : Result := opLogic (fun p m => p ||| m) o s

/-- EOR (R213). -/
def opEor (o : Operand) (s : State) : Result := opLogic (fun p m => p ^^^ m) o s

/-- BIT (R215): N and V from the memory byte, Z from A and the byte; nothing is stored. -/
def opBit (o : Operand) (s : State) : Result :=
  let m := o.value s
  .next ((((s.setFlag .n (bitOf m 7)).setFlag .v (bitOf m 6)).setFlag .z (s.a &&& m == 0#8)).advance o.len)

/-- ASL, LSR, ROL, ROR (R217 to R220): `f` gives the result and the new carry; C, N and Z. -/
def opShift (f : Byte → Bool → Byte × Bool) (o : Operand) (s : State) : Result :=
  let r := f (o.value s) (s.flag .c)
  .next ((((o.put s r.1).setFlag .c r.2).setNZ r.1).advance o.len)

/-- AND (zz,X), `21 zz` (R211, R131). -/
def execAndIndx (zz : Byte) (s : State) : Result := opAnd (.indx zz) s

/-- AND zz, `25 zz` (R211, R123). -/
def execAndZp (zz : Byte) (s : State) : Result := opAnd (.zp zz) s

/-- AND #imm, `29 ii` (R211, R121). -/
def execAndImm (imm : Byte) (s : State) : Result := opAnd (.imm imm) s

/-- AND addr, `2D ll hh` (R211, R126). -/
def execAndAbs (addr : Word) (s : State) : Result := opAnd (.abs addr) s

/-- AND (zz),Y, `31 zz` (R211, R132). -/
def execAndIndy (zz : Byte) (s : State) : Result := opAnd (.indy zz) s

/-- AND zz,X, `35 zz` (R211, R124). -/
def execAndZpx (zz : Byte) (s : State) : Result := opAnd (.zpx zz) s

/-- AND addr,Y, `39 ll hh` (R211, R128). -/
def execAndAbsy (addr : Word) (s : State) : Result := opAnd (.absy addr) s

/-- AND addr,X, `3D ll hh` (R211, R127). -/
def execAndAbsx (addr : Word) (s : State) : Result := opAnd (.absx addr) s

/-- ORA (zz,X), `01 zz` (R212, R131). -/
def execOraIndx (zz : Byte) (s : State) : Result := opOra (.indx zz) s

/-- ORA zz, `05 zz` (R212, R123). -/
def execOraZp (zz : Byte) (s : State) : Result := opOra (.zp zz) s

/-- ORA #imm, `09 ii` (R212, R121). -/
def execOraImm (imm : Byte) (s : State) : Result := opOra (.imm imm) s

/-- ORA addr, `0D ll hh` (R212, R126). -/
def execOraAbs (addr : Word) (s : State) : Result := opOra (.abs addr) s

/-- ORA (zz),Y, `11 zz` (R212, R132). -/
def execOraIndy (zz : Byte) (s : State) : Result := opOra (.indy zz) s

/-- ORA zz,X, `15 zz` (R212, R124). -/
def execOraZpx (zz : Byte) (s : State) : Result := opOra (.zpx zz) s

/-- ORA addr,Y, `19 ll hh` (R212, R128). -/
def execOraAbsy (addr : Word) (s : State) : Result := opOra (.absy addr) s

/-- ORA addr,X, `1D ll hh` (R212, R127). -/
def execOraAbsx (addr : Word) (s : State) : Result := opOra (.absx addr) s

/-- EOR (zz,X), `41 zz` (R213, R131). -/
def execEorIndx (zz : Byte) (s : State) : Result := opEor (.indx zz) s

/-- EOR zz, `45 zz` (R213, R123). -/
def execEorZp (zz : Byte) (s : State) : Result := opEor (.zp zz) s

/-- EOR #imm, `49 ii` (R213, R121). -/
def execEorImm (imm : Byte) (s : State) : Result := opEor (.imm imm) s

/-- EOR addr, `4D ll hh` (R213, R126). -/
def execEorAbs (addr : Word) (s : State) : Result := opEor (.abs addr) s

/-- EOR (zz),Y, `51 zz` (R213, R132). -/
def execEorIndy (zz : Byte) (s : State) : Result := opEor (.indy zz) s

/-- EOR zz,X, `55 zz` (R213, R124). -/
def execEorZpx (zz : Byte) (s : State) : Result := opEor (.zpx zz) s

/-- EOR addr,Y, `59 ll hh` (R213, R128). -/
def execEorAbsy (addr : Word) (s : State) : Result := opEor (.absy addr) s

/-- EOR addr,X, `5D ll hh` (R213, R127). -/
def execEorAbsx (addr : Word) (s : State) : Result := opEor (.absx addr) s

/-- COM zz, `44 zz` (R214, R123): the complement of the cell; N, Z. -/
def execComZp (zz : Byte) (s : State) : Result :=
  let r := ~~~((Operand.zp zz).value s)
  .next ((((Operand.zp zz).put s r).setNZ r).advance 2)

/-- BIT zz, `24 zz` (R215, R123). -/
def execBitZp (zz : Byte) (s : State) : Result := opBit (.zp zz) s

/-- BIT addr, `2C ll hh` (R215, R126). -/
def execBitAbs (addr : Word) (s : State) : Result := opBit (.abs addr) s

/-- TST zz, `64 zz` (R216, R123): N, Z from the cell; nothing is stored. -/
def execTstZp (zz : Byte) (s : State) : Result := .next ((s.setNZ ((Operand.zp zz).value s)).advance 2)

/-- ASL zz, `06 zz` (R217, R123). -/
def execAslZp (zz : Byte) (s : State) : Result := opShift shiftLeft (.zp zz) s

/-- ASL A, `0A` (R217, R122). -/
def execAslAcc (s : State) : Result := opShift shiftLeft .acc s

/-- ASL addr, `0E ll hh` (R217, R126). -/
def execAslAbs (addr : Word) (s : State) : Result := opShift shiftLeft (.abs addr) s

/-- ASL zz,X, `16 zz` (R217, R124). -/
def execAslZpx (zz : Byte) (s : State) : Result := opShift shiftLeft (.zpx zz) s

/-- ASL addr,X, `1E ll hh` (R217, R127). -/
def execAslAbsx (addr : Word) (s : State) : Result := opShift shiftLeft (.absx addr) s

/-- LSR zz, `46 zz` (R218, R123). -/
def execLsrZp (zz : Byte) (s : State) : Result := opShift shiftRight (.zp zz) s

/-- LSR A, `4A` (R218, R122). -/
def execLsrAcc (s : State) : Result := opShift shiftRight .acc s

/-- LSR addr, `4E ll hh` (R218, R126). -/
def execLsrAbs (addr : Word) (s : State) : Result := opShift shiftRight (.abs addr) s

/-- LSR zz,X, `56 zz` (R218, R124). -/
def execLsrZpx (zz : Byte) (s : State) : Result := opShift shiftRight (.zpx zz) s

/-- LSR addr,X, `5E ll hh` (R218, R127). -/
def execLsrAbsx (addr : Word) (s : State) : Result := opShift shiftRight (.absx addr) s

/-- ROL zz, `26 zz` (R219, R123). -/
def execRolZp (zz : Byte) (s : State) : Result := opShift rotateLeft (.zp zz) s

/-- ROL A, `2A` (R219, R122). -/
def execRolAcc (s : State) : Result := opShift rotateLeft .acc s

/-- ROL addr, `2E ll hh` (R219, R126). -/
def execRolAbs (addr : Word) (s : State) : Result := opShift rotateLeft (.abs addr) s

/-- ROL zz,X, `36 zz` (R219, R124). -/
def execRolZpx (zz : Byte) (s : State) : Result := opShift rotateLeft (.zpx zz) s

/-- ROL addr,X, `3E ll hh` (R219, R127). -/
def execRolAbsx (addr : Word) (s : State) : Result := opShift rotateLeft (.absx addr) s

/-- ROR zz, `66 zz` (R220, R123). -/
def execRorZp (zz : Byte) (s : State) : Result := opShift rotateRight (.zp zz) s

/-- ROR A, `6A` (R220, R122). -/
def execRorAcc (s : State) : Result := opShift rotateRight .acc s

/-- ROR addr, `6E ll hh` (R220, R126). -/
def execRorAbs (addr : Word) (s : State) : Result := opShift rotateRight (.abs addr) s

/-- ROR zz,X, `76 zz` (R220, R124). -/
def execRorZpx (zz : Byte) (s : State) : Result := opShift rotateRight (.zpx zz) s

/-- ROR addr,X, `7E ll hh` (R220, R127). -/
def execRorAbsx (addr : Word) (s : State) : Result := opShift rotateRight (.absx addr) s

/-- RRF zz, `82 zz` (R221, R123): the nibbles of the cell exchanged; no flag. -/
def execRrfZp (zz : Byte) (s : State) : Result :=
  .next (((Operand.zp zz).put s (swapNibbles ((Operand.zp zz).value s))).advance 2)

end Sys2Proof.Machine
end

