-- ==== Sys2Proof/Machine/Special.lean ====
section
/-! DEFINITION. The interrupt instruction, the special instructions and the other instruction
(47_interrupt_special_other.md): one meaning for each row of the opcode table. -/

namespace Sys2Proof.Machine

/-- WIT and STP (R301, R302): the PC moves on and the run state changes. -/
def opSuspend (r : RunState) (opcode : Byte) (s : State) : Result :=
  if s.cfg.hasStpWit then .next ((s.advance 1).setRunState r)
  else .refused (.undefinedOpcode opcode)

/-- BRK, `00` (R300, R129): the software interrupt: B is pushed as 1 and the byte after the Op-Code is skipped on return. -/
def execBrk (s : State) : Result := .next (s.enterInterrupt true (s.pc + 2) s.brkVectorUsed)

/-- WIT, `C2` (R301, R129). -/
def execWit (s : State) : Result := opSuspend .waiting 0xC2#8 s

/-- STP, `42` (R302, R129). -/
def execStp (s : State) : Result := opSuspend .stopped 0x42#8 s

/-- NOP, `EA` (R303, R129): only the PC changes. -/
def execNop (s : State) : Result := .next (s.advance 1)

end Sys2Proof.Machine
end

