-- ==== Sys2Proof/Syntax.lean ====
section
/-! DEFINITION. The instructions: one constructor for each row of spec/opcode_table.json, with its operand fields
(30_encoding.md R93 to R98). A constructor is its mnemonic and its addressing mode. Addresses are whole words, `disp` is
the displacement byte as encoded, `b` the bit number. -/

namespace Sys2Proof

/-- The instruction set: 71 mnemonics in 175 forms. -/
inductive Instr where
  | /-- `LDA (zz,X)`: `A1 zz` (R151, R131) -/ ldaIndx (zz : Byte)
  | /-- `LDA zz`: `A5 zz` (R151, R123) -/ ldaZp (zz : Byte)
  | /-- `LDA #imm`: `A9 ii` (R151, R121) -/ ldaImm (imm : Byte)
  | /-- `LDA addr`: `AD ll hh` (R151, R126) -/ ldaAbs (addr : Word)
  | /-- `LDA (zz),Y`: `B1 zz` (R151, R132) -/ ldaIndy (zz : Byte)
  | /-- `LDA zz,X`: `B5 zz` (R151, R124) -/ ldaZpx (zz : Byte)
  | /-- `LDA addr,Y`: `B9 ll hh` (R151, R128) -/ ldaAbsy (addr : Word)
  | /-- `LDA addr,X`: `BD ll hh` (R151, R127) -/ ldaAbsx (addr : Word)
  | /-- `LDM #imm,zz`: `3C ii zz` (R152, R123) -/ ldm (imm : Byte) (zz : Byte)
  | /-- `LDX #imm`: `A2 ii` (R153, R121) -/ ldxImm (imm : Byte)
  | /-- `LDX zz`: `A6 zz` (R153, R123) -/ ldxZp (zz : Byte)
  | /-- `LDX addr`: `AE ll hh` (R153, R126) -/ ldxAbs (addr : Word)
  | /-- `LDX zz,Y`: `B6 zz` (R153, R125) -/ ldxZpy (zz : Byte)
  | /-- `LDX addr,Y`: `BE ll hh` (R153, R128) -/ ldxAbsy (addr : Word)
  | /-- `LDY #imm`: `A0 ii` (R154, R121) -/ ldyImm (imm : Byte)
  | /-- `LDY zz`: `A4 zz` (R154, R123) -/ ldyZp (zz : Byte)
  | /-- `LDY addr`: `AC ll hh` (R154, R126) -/ ldyAbs (addr : Word)
  | /-- `LDY zz,X`: `B4 zz` (R154, R124) -/ ldyZpx (zz : Byte)
  | /-- `LDY addr,X`: `BC ll hh` (R154, R127) -/ ldyAbsx (addr : Word)
  | /-- `STA (zz,X)`: `81 zz` (R155, R131) -/ staIndx (zz : Byte)
  | /-- `STA zz`: `85 zz` (R155, R123) -/ staZp (zz : Byte)
  | /-- `STA addr`: `8D ll hh` (R155, R126) -/ staAbs (addr : Word)
  | /-- `STA (zz),Y`: `91 zz` (R155, R132) -/ staIndy (zz : Byte)
  | /-- `STA zz,X`: `95 zz` (R155, R124) -/ staZpx (zz : Byte)
  | /-- `STA addr,Y`: `99 ll hh` (R155, R128) -/ staAbsy (addr : Word)
  | /-- `STA addr,X`: `9D ll hh` (R155, R127) -/ staAbsx (addr : Word)
  | /-- `STX zz`: `86 zz` (R156, R123) -/ stxZp (zz : Byte)
  | /-- `STX addr`: `8E ll hh` (R156, R126) -/ stxAbs (addr : Word)
  | /-- `STX zz,Y`: `96 zz` (R156, R125) -/ stxZpy (zz : Byte)
  | /-- `STY zz`: `84 zz` (R157, R123) -/ styZp (zz : Byte)
  | /-- `STY addr`: `8C ll hh` (R157, R126) -/ styAbs (addr : Word)
  | /-- `STY zz,X`: `94 zz` (R157, R124) -/ styZpx (zz : Byte)
  | /-- `TAX`: `AA` (R158, R129) -/ tax
  | /-- `TXA`: `8A` (R159, R129) -/ txa
  | /-- `TAY`: `A8` (R160, R129) -/ tay
  | /-- `TYA`: `98` (R161, R129) -/ tya
  | /-- `TSX`: `BA` (R162, R129) -/ tsx
  | /-- `TXS`: `9A` (R163, R129) -/ txs
  | /-- `PHA`: `48` (R164, R129) -/ pha
  | /-- `PHP`: `08` (R165, R129) -/ php
  | /-- `PLA`: `68` (R166, R129) -/ pla
  | /-- `PLP`: `28` (R167, R129) -/ plp
  | /-- `ADC (zz,X)`: `61 zz` (R183, R131) -/ adcIndx (zz : Byte)
  | /-- `ADC zz`: `65 zz` (R183, R123) -/ adcZp (zz : Byte)
  | /-- `ADC #imm`: `69 ii` (R183, R121) -/ adcImm (imm : Byte)
  | /-- `ADC addr`: `6D ll hh` (R183, R126) -/ adcAbs (addr : Word)
  | /-- `ADC (zz),Y`: `71 zz` (R183, R132) -/ adcIndy (zz : Byte)
  | /-- `ADC zz,X`: `75 zz` (R183, R124) -/ adcZpx (zz : Byte)
  | /-- `ADC addr,Y`: `79 ll hh` (R183, R128) -/ adcAbsy (addr : Word)
  | /-- `ADC addr,X`: `7D ll hh` (R183, R127) -/ adcAbsx (addr : Word)
  | /-- `SBC (zz,X)`: `E1 zz` (R184, R131) -/ sbcIndx (zz : Byte)
  | /-- `SBC zz`: `E5 zz` (R184, R123) -/ sbcZp (zz : Byte)
  | /-- `SBC #imm`: `E9 ii` (R184, R121) -/ sbcImm (imm : Byte)
  | /-- `SBC addr`: `ED ll hh` (R184, R126) -/ sbcAbs (addr : Word)
  | /-- `SBC (zz),Y`: `F1 zz` (R184, R132) -/ sbcIndy (zz : Byte)
  | /-- `SBC zz,X`: `F5 zz` (R184, R124) -/ sbcZpx (zz : Byte)
  | /-- `SBC addr,Y`: `F9 ll hh` (R184, R128) -/ sbcAbsy (addr : Word)
  | /-- `SBC addr,X`: `FD ll hh` (R184, R127) -/ sbcAbsx (addr : Word)
  | /-- `INC A`: `3A` (R185, R122) -/ incAcc
  | /-- `INC zz`: `E6 zz` (R185, R123) -/ incZp (zz : Byte)
  | /-- `INC addr`: `EE ll hh` (R185, R126) -/ incAbs (addr : Word)
  | /-- `INC zz,X`: `F6 zz` (R185, R124) -/ incZpx (zz : Byte)
  | /-- `INC addr,X`: `FE ll hh` (R185, R127) -/ incAbsx (addr : Word)
  | /-- `DEC A`: `1A` (R186, R122) -/ decAcc
  | /-- `DEC zz`: `C6 zz` (R186, R123) -/ decZp (zz : Byte)
  | /-- `DEC addr`: `CE ll hh` (R186, R126) -/ decAbs (addr : Word)
  | /-- `DEC zz,X`: `D6 zz` (R186, R124) -/ decZpx (zz : Byte)
  | /-- `DEC addr,X`: `DE ll hh` (R186, R127) -/ decAbsx (addr : Word)
  | /-- `INX`: `E8` (R187, R129) -/ inx
  | /-- `DEX`: `CA` (R188, R129) -/ dex
  | /-- `INY`: `C8` (R189, R129) -/ iny
  | /-- `DEY`: `88` (R190, R129) -/ dey
  | /-- `MUL zz,X`: `62 zz` (R191, R124) -/ mulZpx (zz : Byte)
  | /-- `DIV zz,X`: `E2 zz` (R192, R124) -/ divZpx (zz : Byte)
  | /-- `CMP (zz,X)`: `C1 zz` (R193, R131) -/ cmpIndx (zz : Byte)
  | /-- `CMP zz`: `C5 zz` (R193, R123) -/ cmpZp (zz : Byte)
  | /-- `CMP #imm`: `C9 ii` (R193, R121) -/ cmpImm (imm : Byte)
  | /-- `CMP addr`: `CD ll hh` (R193, R126) -/ cmpAbs (addr : Word)
  | /-- `CMP (zz),Y`: `D1 zz` (R193, R132) -/ cmpIndy (zz : Byte)
  | /-- `CMP zz,X`: `D5 zz` (R193, R124) -/ cmpZpx (zz : Byte)
  | /-- `CMP addr,Y`: `D9 ll hh` (R193, R128) -/ cmpAbsy (addr : Word)
  | /-- `CMP addr,X`: `DD ll hh` (R193, R127) -/ cmpAbsx (addr : Word)
  | /-- `CPX #imm`: `E0 ii` (R194, R121) -/ cpxImm (imm : Byte)
  | /-- `CPX zz`: `E4 zz` (R194, R123) -/ cpxZp (zz : Byte)
  | /-- `CPX addr`: `EC ll hh` (R194, R126) -/ cpxAbs (addr : Word)
  | /-- `CPY #imm`: `C0 ii` (R195, R121) -/ cpyImm (imm : Byte)
  | /-- `CPY zz`: `C4 zz` (R195, R123) -/ cpyZp (zz : Byte)
  | /-- `CPY addr`: `CC ll hh` (R195, R126) -/ cpyAbs (addr : Word)
  | /-- `AND (zz,X)`: `21 zz` (R211, R131) -/ andIndx (zz : Byte)
  | /-- `AND zz`: `25 zz` (R211, R123) -/ andZp (zz : Byte)
  | /-- `AND #imm`: `29 ii` (R211, R121) -/ andImm (imm : Byte)
  | /-- `AND addr`: `2D ll hh` (R211, R126) -/ andAbs (addr : Word)
  | /-- `AND (zz),Y`: `31 zz` (R211, R132) -/ andIndy (zz : Byte)
  | /-- `AND zz,X`: `35 zz` (R211, R124) -/ andZpx (zz : Byte)
  | /-- `AND addr,Y`: `39 ll hh` (R211, R128) -/ andAbsy (addr : Word)
  | /-- `AND addr,X`: `3D ll hh` (R211, R127) -/ andAbsx (addr : Word)
  | /-- `ORA (zz,X)`: `01 zz` (R212, R131) -/ oraIndx (zz : Byte)
  | /-- `ORA zz`: `05 zz` (R212, R123) -/ oraZp (zz : Byte)
  | /-- `ORA #imm`: `09 ii` (R212, R121) -/ oraImm (imm : Byte)
  | /-- `ORA addr`: `0D ll hh` (R212, R126) -/ oraAbs (addr : Word)
  | /-- `ORA (zz),Y`: `11 zz` (R212, R132) -/ oraIndy (zz : Byte)
  | /-- `ORA zz,X`: `15 zz` (R212, R124) -/ oraZpx (zz : Byte)
  | /-- `ORA addr,Y`: `19 ll hh` (R212, R128) -/ oraAbsy (addr : Word)
  | /-- `ORA addr,X`: `1D ll hh` (R212, R127) -/ oraAbsx (addr : Word)
  | /-- `EOR (zz,X)`: `41 zz` (R213, R131) -/ eorIndx (zz : Byte)
  | /-- `EOR zz`: `45 zz` (R213, R123) -/ eorZp (zz : Byte)
  | /-- `EOR #imm`: `49 ii` (R213, R121) -/ eorImm (imm : Byte)
  | /-- `EOR addr`: `4D ll hh` (R213, R126) -/ eorAbs (addr : Word)
  | /-- `EOR (zz),Y`: `51 zz` (R213, R132) -/ eorIndy (zz : Byte)
  | /-- `EOR zz,X`: `55 zz` (R213, R124) -/ eorZpx (zz : Byte)
  | /-- `EOR addr,Y`: `59 ll hh` (R213, R128) -/ eorAbsy (addr : Word)
  | /-- `EOR addr,X`: `5D ll hh` (R213, R127) -/ eorAbsx (addr : Word)
  | /-- `COM zz`: `44 zz` (R214, R123) -/ comZp (zz : Byte)
  | /-- `BIT zz`: `24 zz` (R215, R123) -/ bitZp (zz : Byte)
  | /-- `BIT addr`: `2C ll hh` (R215, R126) -/ bitAbs (addr : Word)
  | /-- `TST zz`: `64 zz` (R216, R123) -/ tstZp (zz : Byte)
  | /-- `ASL zz`: `06 zz` (R217, R123) -/ aslZp (zz : Byte)
  | /-- `ASL A`: `0A` (R217, R122) -/ aslAcc
  | /-- `ASL addr`: `0E ll hh` (R217, R126) -/ aslAbs (addr : Word)
  | /-- `ASL zz,X`: `16 zz` (R217, R124) -/ aslZpx (zz : Byte)
  | /-- `ASL addr,X`: `1E ll hh` (R217, R127) -/ aslAbsx (addr : Word)
  | /-- `LSR zz`: `46 zz` (R218, R123) -/ lsrZp (zz : Byte)
  | /-- `LSR A`: `4A` (R218, R122) -/ lsrAcc
  | /-- `LSR addr`: `4E ll hh` (R218, R126) -/ lsrAbs (addr : Word)
  | /-- `LSR zz,X`: `56 zz` (R218, R124) -/ lsrZpx (zz : Byte)
  | /-- `LSR addr,X`: `5E ll hh` (R218, R127) -/ lsrAbsx (addr : Word)
  | /-- `ROL zz`: `26 zz` (R219, R123) -/ rolZp (zz : Byte)
  | /-- `ROL A`: `2A` (R219, R122) -/ rolAcc
  | /-- `ROL addr`: `2E ll hh` (R219, R126) -/ rolAbs (addr : Word)
  | /-- `ROL zz,X`: `36 zz` (R219, R124) -/ rolZpx (zz : Byte)
  | /-- `ROL addr,X`: `3E ll hh` (R219, R127) -/ rolAbsx (addr : Word)
  | /-- `ROR zz`: `66 zz` (R220, R123) -/ rorZp (zz : Byte)
  | /-- `ROR A`: `6A` (R220, R122) -/ rorAcc
  | /-- `ROR addr`: `6E ll hh` (R220, R126) -/ rorAbs (addr : Word)
  | /-- `ROR zz,X`: `76 zz` (R220, R124) -/ rorZpx (zz : Byte)
  | /-- `ROR addr,X`: `7E ll hh` (R220, R127) -/ rorAbsx (addr : Word)
  | /-- `RRF zz`: `82 zz` (R221, R123) -/ rrfZp (zz : Byte)
  | /-- `CLB b,A`: `1B+20b` (R241, R138) -/ clbAcc (b : BitNo)
  | /-- `CLB b,zz`: `1F+20b zz` (R241, R137) -/ clbZp (b : BitNo) (zz : Byte)
  | /-- `SEB b,A`: `0B+20b` (R242, R138) -/ sebAcc (b : BitNo)
  | /-- `SEB b,zz`: `0F+20b zz` (R242, R137) -/ sebZp (b : BitNo) (zz : Byte)
  | /-- `CLC`: `18` (R251, R129) -/ clc
  | /-- `SEC`: `38` (R252, R129) -/ sec
  | /-- `CLD`: `D8` (R253, R129) -/ cld
  | /-- `SED`: `F8` (R254, R129) -/ sed
  | /-- `CLI`: `58` (R255, R129) -/ cli
  | /-- `SEI`: `78` (R256, R129) -/ sei
  | /-- `CLT`: `12` (R257, R129) -/ clt
  | /-- `SET`: `32` (R258, R129) -/ set
  | /-- `CLV`: `B8` (R259, R129) -/ clv
  | /-- `JMP addr`: `4C ll hh` (R271, R126) -/ jmpAbs (addr : Word)
  | /-- `JMP (addr)`: `6C ll hh` (R271, R133) -/ jmpInd (addr : Word)
  | /-- `JMP (zz)`: `B2 zz` (R271, R135) -/ jmpZpind (zz : Byte)
  | /-- `BRA rel`: `80 rr` (R272, R130) -/ bra (disp : Byte)
  | /-- `JSR (zz)`: `02 zz` (R273, R135) -/ jsrZpind (zz : Byte)
  | /-- `JSR addr`: `20 ll hh` (R273, R126) -/ jsrAbs (addr : Word)
  | /-- `JSR sp`: `22 pp` (R273, R136) -/ jsrSp (pp : Byte)
  | /-- `RTS`: `60` (R285, R129) -/ rts
  | /-- `RTI`: `40` (R284, R129) -/ rti
  | /-- `BBC b,A,rel`: `13+20b rr` (R274, R139) -/ bbcAcc (b : BitNo) (disp : Byte)
  | /-- `BBC b,zz,rel`: `17+20b zz rr` (R274, R140) -/ bbcZp (b : BitNo) (zz : Byte) (disp : Byte)
  | /-- `BBS b,A,rel`: `03+20b rr` (R275, R139) -/ bbsAcc (b : BitNo) (disp : Byte)
  | /-- `BBS b,zz,rel`: `07+20b zz rr` (R275, R140) -/ bbsZp (b : BitNo) (zz : Byte) (disp : Byte)
  | /-- `BCC rel`: `90 rr` (R276, R130) -/ bcc (disp : Byte)
  | /-- `BCS rel`: `B0 rr` (R277, R130) -/ bcs (disp : Byte)
  | /-- `BNE rel`: `D0 rr` (R278, R130) -/ bne (disp : Byte)
  | /-- `BEQ rel`: `F0 rr` (R279, R130) -/ beq (disp : Byte)
  | /-- `BPL rel`: `10 rr` (R280, R130) -/ bpl (disp : Byte)
  | /-- `BMI rel`: `30 rr` (R281, R130) -/ bmi (disp : Byte)
  | /-- `BVC rel`: `50 rr` (R282, R130) -/ bvc (disp : Byte)
  | /-- `BVS rel`: `70 rr` (R283, R130) -/ bvs (disp : Byte)
  | /-- `BRK`: `00` (R300, R129) -/ brk
  | /-- `WIT`: `C2` (R301, R129) -/ wit
  | /-- `STP`: `42` (R302, R129) -/ stp
  | /-- `NOP`: `EA` (R303, R129) -/ nop
  deriving DecidableEq, Repr

/-- The mnemonic of an instruction, as the opcode table spells it (R98). -/
def Instr.mnemonic : Instr → String
  | .ldaIndx _ | .ldaZp _ | .ldaImm _ | .ldaAbs _ | .ldaIndy _ | .ldaZpx _ | .ldaAbsy _ | .ldaAbsx _ => "LDA"
  | .ldm _ _ => "LDM"
  | .ldxImm _ | .ldxZp _ | .ldxAbs _ | .ldxZpy _ | .ldxAbsy _ => "LDX"
  | .ldyImm _ | .ldyZp _ | .ldyAbs _ | .ldyZpx _ | .ldyAbsx _ => "LDY"
  | .staIndx _ | .staZp _ | .staAbs _ | .staIndy _ | .staZpx _ | .staAbsy _ | .staAbsx _ => "STA"
  | .stxZp _ | .stxAbs _ | .stxZpy _ => "STX"
  | .styZp _ | .styAbs _ | .styZpx _ => "STY"
  | .tax => "TAX"
  | .txa => "TXA"
  | .tay => "TAY"
  | .tya => "TYA"
  | .tsx => "TSX"
  | .txs => "TXS"
  | .pha => "PHA"
  | .php => "PHP"
  | .pla => "PLA"
  | .plp => "PLP"
  | .adcIndx _ | .adcZp _ | .adcImm _ | .adcAbs _ | .adcIndy _ | .adcZpx _ | .adcAbsy _ | .adcAbsx _ => "ADC"
  | .sbcIndx _ | .sbcZp _ | .sbcImm _ | .sbcAbs _ | .sbcIndy _ | .sbcZpx _ | .sbcAbsy _ | .sbcAbsx _ => "SBC"
  | .incAcc | .incZp _ | .incAbs _ | .incZpx _ | .incAbsx _ => "INC"
  | .decAcc | .decZp _ | .decAbs _ | .decZpx _ | .decAbsx _ => "DEC"
  | .inx => "INX"
  | .dex => "DEX"
  | .iny => "INY"
  | .dey => "DEY"
  | .mulZpx _ => "MUL"
  | .divZpx _ => "DIV"
  | .cmpIndx _ | .cmpZp _ | .cmpImm _ | .cmpAbs _ | .cmpIndy _ | .cmpZpx _ | .cmpAbsy _ | .cmpAbsx _ => "CMP"
  | .cpxImm _ | .cpxZp _ | .cpxAbs _ => "CPX"
  | .cpyImm _ | .cpyZp _ | .cpyAbs _ => "CPY"
  | .andIndx _ | .andZp _ | .andImm _ | .andAbs _ | .andIndy _ | .andZpx _ | .andAbsy _ | .andAbsx _ => "AND"
  | .oraIndx _ | .oraZp _ | .oraImm _ | .oraAbs _ | .oraIndy _ | .oraZpx _ | .oraAbsy _ | .oraAbsx _ => "ORA"
  | .eorIndx _ | .eorZp _ | .eorImm _ | .eorAbs _ | .eorIndy _ | .eorZpx _ | .eorAbsy _ | .eorAbsx _ => "EOR"
  | .comZp _ => "COM"
  | .bitZp _ | .bitAbs _ => "BIT"
  | .tstZp _ => "TST"
  | .aslZp _ | .aslAcc | .aslAbs _ | .aslZpx _ | .aslAbsx _ => "ASL"
  | .lsrZp _ | .lsrAcc | .lsrAbs _ | .lsrZpx _ | .lsrAbsx _ => "LSR"
  | .rolZp _ | .rolAcc | .rolAbs _ | .rolZpx _ | .rolAbsx _ => "ROL"
  | .rorZp _ | .rorAcc | .rorAbs _ | .rorZpx _ | .rorAbsx _ => "ROR"
  | .rrfZp _ => "RRF"
  | .clbAcc _ | .clbZp _ _ => "CLB"
  | .sebAcc _ | .sebZp _ _ => "SEB"
  | .clc => "CLC"
  | .sec => "SEC"
  | .cld => "CLD"
  | .sed => "SED"
  | .cli => "CLI"
  | .sei => "SEI"
  | .clt => "CLT"
  | .set => "SET"
  | .clv => "CLV"
  | .jmpAbs _ | .jmpInd _ | .jmpZpind _ => "JMP"
  | .bra _ => "BRA"
  | .jsrZpind _ | .jsrAbs _ | .jsrSp _ => "JSR"
  | .rts => "RTS"
  | .rti => "RTI"
  | .bbcAcc _ _ | .bbcZp _ _ _ => "BBC"
  | .bbsAcc _ _ | .bbsZp _ _ _ => "BBS"
  | .bcc _ => "BCC"
  | .bcs _ => "BCS"
  | .bne _ => "BNE"
  | .beq _ => "BEQ"
  | .bpl _ => "BPL"
  | .bmi _ => "BMI"
  | .bvc _ => "BVC"
  | .bvs _ => "BVS"
  | .brk => "BRK"
  | .wit => "WIT"
  | .stp => "STP"
  | .nop => "NOP"

end Sys2Proof
end

