-- ==== Sys2Proof/Machine/Dispatch.lean ====
section
/-! DEFINITION. The one dispatch: each constructor of `Instr` calls its meaning. -/

namespace Sys2Proof.Machine

def exec (i : Instr) (s : State) : Host.Outcome State Fault Refusal :=
  match i with
  | .ldaIndx zz => Sys2Proof.Machine.execLdaIndx zz s
  | .ldaZp zz => Sys2Proof.Machine.execLdaZp zz s
  | .ldaImm imm => Sys2Proof.Machine.execLdaImm imm s
  | .ldaAbs addr => Sys2Proof.Machine.execLdaAbs addr s
  | .ldaIndy zz => Sys2Proof.Machine.execLdaIndy zz s
  | .ldaZpx zz => Sys2Proof.Machine.execLdaZpx zz s
  | .ldaAbsy addr => Sys2Proof.Machine.execLdaAbsy addr s
  | .ldaAbsx addr => Sys2Proof.Machine.execLdaAbsx addr s
  | .ldm imm zz => Sys2Proof.Machine.execLdm imm zz s
  | .ldxImm imm => Sys2Proof.Machine.execLdxImm imm s
  | .ldxZp zz => Sys2Proof.Machine.execLdxZp zz s
  | .ldxAbs addr => Sys2Proof.Machine.execLdxAbs addr s
  | .ldxZpy zz => Sys2Proof.Machine.execLdxZpy zz s
  | .ldxAbsy addr => Sys2Proof.Machine.execLdxAbsy addr s
  | .ldyImm imm => Sys2Proof.Machine.execLdyImm imm s
  | .ldyZp zz => Sys2Proof.Machine.execLdyZp zz s
  | .ldyAbs addr => Sys2Proof.Machine.execLdyAbs addr s
  | .ldyZpx zz => Sys2Proof.Machine.execLdyZpx zz s
  | .ldyAbsx addr => Sys2Proof.Machine.execLdyAbsx addr s
  | .staIndx zz => Sys2Proof.Machine.execStaIndx zz s
  | .staZp zz => Sys2Proof.Machine.execStaZp zz s
  | .staAbs addr => Sys2Proof.Machine.execStaAbs addr s
  | .staIndy zz => Sys2Proof.Machine.execStaIndy zz s
  | .staZpx zz => Sys2Proof.Machine.execStaZpx zz s
  | .staAbsy addr => Sys2Proof.Machine.execStaAbsy addr s
  | .staAbsx addr => Sys2Proof.Machine.execStaAbsx addr s
  | .stxZp zz => Sys2Proof.Machine.execStxZp zz s
  | .stxAbs addr => Sys2Proof.Machine.execStxAbs addr s
  | .stxZpy zz => Sys2Proof.Machine.execStxZpy zz s
  | .styZp zz => Sys2Proof.Machine.execStyZp zz s
  | .styAbs addr => Sys2Proof.Machine.execStyAbs addr s
  | .styZpx zz => Sys2Proof.Machine.execStyZpx zz s
  | .tax => Sys2Proof.Machine.execTax s
  | .txa => Sys2Proof.Machine.execTxa s
  | .tay => Sys2Proof.Machine.execTay s
  | .tya => Sys2Proof.Machine.execTya s
  | .tsx => Sys2Proof.Machine.execTsx s
  | .txs => Sys2Proof.Machine.execTxs s
  | .pha => Sys2Proof.Machine.execPha s
  | .php => Sys2Proof.Machine.execPhp s
  | .pla => Sys2Proof.Machine.execPla s
  | .plp => Sys2Proof.Machine.execPlp s
  | .adcIndx zz => Sys2Proof.Machine.execAdcIndx zz s
  | .adcZp zz => Sys2Proof.Machine.execAdcZp zz s
  | .adcImm imm => Sys2Proof.Machine.execAdcImm imm s
  | .adcAbs addr => Sys2Proof.Machine.execAdcAbs addr s
  | .adcIndy zz => Sys2Proof.Machine.execAdcIndy zz s
  | .adcZpx zz => Sys2Proof.Machine.execAdcZpx zz s
  | .adcAbsy addr => Sys2Proof.Machine.execAdcAbsy addr s
  | .adcAbsx addr => Sys2Proof.Machine.execAdcAbsx addr s
  | .sbcIndx zz => Sys2Proof.Machine.execSbcIndx zz s
  | .sbcZp zz => Sys2Proof.Machine.execSbcZp zz s
  | .sbcImm imm => Sys2Proof.Machine.execSbcImm imm s
  | .sbcAbs addr => Sys2Proof.Machine.execSbcAbs addr s
  | .sbcIndy zz => Sys2Proof.Machine.execSbcIndy zz s
  | .sbcZpx zz => Sys2Proof.Machine.execSbcZpx zz s
  | .sbcAbsy addr => Sys2Proof.Machine.execSbcAbsy addr s
  | .sbcAbsx addr => Sys2Proof.Machine.execSbcAbsx addr s
  | .incAcc => Sys2Proof.Machine.execIncAcc s
  | .incZp zz => Sys2Proof.Machine.execIncZp zz s
  | .incAbs addr => Sys2Proof.Machine.execIncAbs addr s
  | .incZpx zz => Sys2Proof.Machine.execIncZpx zz s
  | .incAbsx addr => Sys2Proof.Machine.execIncAbsx addr s
  | .decAcc => Sys2Proof.Machine.execDecAcc s
  | .decZp zz => Sys2Proof.Machine.execDecZp zz s
  | .decAbs addr => Sys2Proof.Machine.execDecAbs addr s
  | .decZpx zz => Sys2Proof.Machine.execDecZpx zz s
  | .decAbsx addr => Sys2Proof.Machine.execDecAbsx addr s
  | .inx => Sys2Proof.Machine.execInx s
  | .dex => Sys2Proof.Machine.execDex s
  | .iny => Sys2Proof.Machine.execIny s
  | .dey => Sys2Proof.Machine.execDey s
  | .mulZpx zz => Sys2Proof.Machine.execMulZpx zz s
  | .divZpx zz => Sys2Proof.Machine.execDivZpx zz s
  | .cmpIndx zz => Sys2Proof.Machine.execCmpIndx zz s
  | .cmpZp zz => Sys2Proof.Machine.execCmpZp zz s
  | .cmpImm imm => Sys2Proof.Machine.execCmpImm imm s
  | .cmpAbs addr => Sys2Proof.Machine.execCmpAbs addr s
  | .cmpIndy zz => Sys2Proof.Machine.execCmpIndy zz s
  | .cmpZpx zz => Sys2Proof.Machine.execCmpZpx zz s
  | .cmpAbsy addr => Sys2Proof.Machine.execCmpAbsy addr s
  | .cmpAbsx addr => Sys2Proof.Machine.execCmpAbsx addr s
  | .cpxImm imm => Sys2Proof.Machine.execCpxImm imm s
  | .cpxZp zz => Sys2Proof.Machine.execCpxZp zz s
  | .cpxAbs addr => Sys2Proof.Machine.execCpxAbs addr s
  | .cpyImm imm => Sys2Proof.Machine.execCpyImm imm s
  | .cpyZp zz => Sys2Proof.Machine.execCpyZp zz s
  | .cpyAbs addr => Sys2Proof.Machine.execCpyAbs addr s
  | .andIndx zz => Sys2Proof.Machine.execAndIndx zz s
  | .andZp zz => Sys2Proof.Machine.execAndZp zz s
  | .andImm imm => Sys2Proof.Machine.execAndImm imm s
  | .andAbs addr => Sys2Proof.Machine.execAndAbs addr s
  | .andIndy zz => Sys2Proof.Machine.execAndIndy zz s
  | .andZpx zz => Sys2Proof.Machine.execAndZpx zz s
  | .andAbsy addr => Sys2Proof.Machine.execAndAbsy addr s
  | .andAbsx addr => Sys2Proof.Machine.execAndAbsx addr s
  | .oraIndx zz => Sys2Proof.Machine.execOraIndx zz s
  | .oraZp zz => Sys2Proof.Machine.execOraZp zz s
  | .oraImm imm => Sys2Proof.Machine.execOraImm imm s
  | .oraAbs addr => Sys2Proof.Machine.execOraAbs addr s
  | .oraIndy zz => Sys2Proof.Machine.execOraIndy zz s
  | .oraZpx zz => Sys2Proof.Machine.execOraZpx zz s
  | .oraAbsy addr => Sys2Proof.Machine.execOraAbsy addr s
  | .oraAbsx addr => Sys2Proof.Machine.execOraAbsx addr s
  | .eorIndx zz => Sys2Proof.Machine.execEorIndx zz s
  | .eorZp zz => Sys2Proof.Machine.execEorZp zz s
  | .eorImm imm => Sys2Proof.Machine.execEorImm imm s
  | .eorAbs addr => Sys2Proof.Machine.execEorAbs addr s
  | .eorIndy zz => Sys2Proof.Machine.execEorIndy zz s
  | .eorZpx zz => Sys2Proof.Machine.execEorZpx zz s
  | .eorAbsy addr => Sys2Proof.Machine.execEorAbsy addr s
  | .eorAbsx addr => Sys2Proof.Machine.execEorAbsx addr s
  | .comZp zz => Sys2Proof.Machine.execComZp zz s
  | .bitZp zz => Sys2Proof.Machine.execBitZp zz s
  | .bitAbs addr => Sys2Proof.Machine.execBitAbs addr s
  | .tstZp zz => Sys2Proof.Machine.execTstZp zz s
  | .aslZp zz => Sys2Proof.Machine.execAslZp zz s
  | .aslAcc => Sys2Proof.Machine.execAslAcc s
  | .aslAbs addr => Sys2Proof.Machine.execAslAbs addr s
  | .aslZpx zz => Sys2Proof.Machine.execAslZpx zz s
  | .aslAbsx addr => Sys2Proof.Machine.execAslAbsx addr s
  | .lsrZp zz => Sys2Proof.Machine.execLsrZp zz s
  | .lsrAcc => Sys2Proof.Machine.execLsrAcc s
  | .lsrAbs addr => Sys2Proof.Machine.execLsrAbs addr s
  | .lsrZpx zz => Sys2Proof.Machine.execLsrZpx zz s
  | .lsrAbsx addr => Sys2Proof.Machine.execLsrAbsx addr s
  | .rolZp zz => Sys2Proof.Machine.execRolZp zz s
  | .rolAcc => Sys2Proof.Machine.execRolAcc s
  | .rolAbs addr => Sys2Proof.Machine.execRolAbs addr s
  | .rolZpx zz => Sys2Proof.Machine.execRolZpx zz s
  | .rolAbsx addr => Sys2Proof.Machine.execRolAbsx addr s
  | .rorZp zz => Sys2Proof.Machine.execRorZp zz s
  | .rorAcc => Sys2Proof.Machine.execRorAcc s
  | .rorAbs addr => Sys2Proof.Machine.execRorAbs addr s
  | .rorZpx zz => Sys2Proof.Machine.execRorZpx zz s
  | .rorAbsx addr => Sys2Proof.Machine.execRorAbsx addr s
  | .rrfZp zz => Sys2Proof.Machine.execRrfZp zz s
  | .clbAcc b => Sys2Proof.Machine.execClbAcc b s
  | .clbZp b zz => Sys2Proof.Machine.execClbZp b zz s
  | .sebAcc b => Sys2Proof.Machine.execSebAcc b s
  | .sebZp b zz => Sys2Proof.Machine.execSebZp b zz s
  | .clc => Sys2Proof.Machine.execClc s
  | .sec => Sys2Proof.Machine.execSec s
  | .cld => Sys2Proof.Machine.execCld s
  | .sed => Sys2Proof.Machine.execSed s
  | .cli => Sys2Proof.Machine.execCli s
  | .sei => Sys2Proof.Machine.execSei s
  | .clt => Sys2Proof.Machine.execClt s
  | .set => Sys2Proof.Machine.execSet s
  | .clv => Sys2Proof.Machine.execClv s
  | .jmpAbs addr => Sys2Proof.Machine.execJmpAbs addr s
  | .jmpInd addr => Sys2Proof.Machine.execJmpInd addr s
  | .jmpZpind zz => Sys2Proof.Machine.execJmpZpind zz s
  | .bra disp => Sys2Proof.Machine.execBra disp s
  | .jsrZpind zz => Sys2Proof.Machine.execJsrZpind zz s
  | .jsrAbs addr => Sys2Proof.Machine.execJsrAbs addr s
  | .jsrSp pp => Sys2Proof.Machine.execJsrSp pp s
  | .rts => Sys2Proof.Machine.execRts s
  | .rti => Sys2Proof.Machine.execRti s
  | .bbcAcc b disp => Sys2Proof.Machine.execBbcAcc b disp s
  | .bbcZp b zz disp => Sys2Proof.Machine.execBbcZp b zz disp s
  | .bbsAcc b disp => Sys2Proof.Machine.execBbsAcc b disp s
  | .bbsZp b zz disp => Sys2Proof.Machine.execBbsZp b zz disp s
  | .bcc disp => Sys2Proof.Machine.execBcc disp s
  | .bcs disp => Sys2Proof.Machine.execBcs disp s
  | .bne disp => Sys2Proof.Machine.execBne disp s
  | .beq disp => Sys2Proof.Machine.execBeq disp s
  | .bpl disp => Sys2Proof.Machine.execBpl disp s
  | .bmi disp => Sys2Proof.Machine.execBmi disp s
  | .bvc disp => Sys2Proof.Machine.execBvc disp s
  | .bvs disp => Sys2Proof.Machine.execBvs disp s
  | .brk => Sys2Proof.Machine.execBrk s
  | .wit => Sys2Proof.Machine.execWit s
  | .stp => Sys2Proof.Machine.execStp s
  | .nop => Sys2Proof.Machine.execNop s

end Sys2Proof.Machine
end

