-- ==== Sys2Proof/Decode.lean ====
section
/-! DEFINITION. The decoder, from the opcode table of 30_encoding.md (R90 to R99), and after it the encoder, written
from the same rules row by row. -/

namespace Sys2Proof

open Sys2Proof.Machine (mkWord lowByte highByte byteOfNat)

/-- Why bytes are no instruction. -/
inductive DecodeError where
  | /-- the first byte selects no instruction (R99) -/ undefinedOpcode (opcode : Byte)
  | /-- the instruction's bytes are not all there -/ truncated
  deriving DecidableEq, Repr

/-- One row of the opcode table: the Op-Codes whose masked bits are `pattern`, the length (R93), and the instruction
from the Op-Code and the two bytes after it. -/
structure OpcodeRow where
  mask : Byte
  pattern : Byte
  length : Nat
  build : Byte → Byte → Byte → Instr

/-- The bit number of a bit instruction, `opcode[7:5]` (R95). -/
def opcodeBit (op : Byte) : BitNo := op.extractLsb' 5 3

/-- Data transfer (41_data_transfer.md): the rows of 30_encoding.md R97 and R98. -/
def rowsDataTransfer : List OpcodeRow := [
  ⟨0xFF#8, 0xA1#8, 2, fun _ op1 _ => .ldaIndx op1⟩,
  ⟨0xFF#8, 0xA5#8, 2, fun _ op1 _ => .ldaZp op1⟩,
  ⟨0xFF#8, 0xA9#8, 2, fun _ op1 _ => .ldaImm op1⟩,
  ⟨0xFF#8, 0xAD#8, 3, fun _ op1 op2 => .ldaAbs (mkWord op2 op1)⟩,
  ⟨0xFF#8, 0xB1#8, 2, fun _ op1 _ => .ldaIndy op1⟩,
  ⟨0xFF#8, 0xB5#8, 2, fun _ op1 _ => .ldaZpx op1⟩,
  ⟨0xFF#8, 0xB9#8, 3, fun _ op1 op2 => .ldaAbsy (mkWord op2 op1)⟩,
  ⟨0xFF#8, 0xBD#8, 3, fun _ op1 op2 => .ldaAbsx (mkWord op2 op1)⟩,
  ⟨0xFF#8, 0x3C#8, 3, fun _ op1 op2 => .ldm op1 op2⟩,
  ⟨0xFF#8, 0xA2#8, 2, fun _ op1 _ => .ldxImm op1⟩,
  ⟨0xFF#8, 0xA6#8, 2, fun _ op1 _ => .ldxZp op1⟩,
  ⟨0xFF#8, 0xAE#8, 3, fun _ op1 op2 => .ldxAbs (mkWord op2 op1)⟩,
  ⟨0xFF#8, 0xB6#8, 2, fun _ op1 _ => .ldxZpy op1⟩,
  ⟨0xFF#8, 0xBE#8, 3, fun _ op1 op2 => .ldxAbsy (mkWord op2 op1)⟩,
  ⟨0xFF#8, 0xA0#8, 2, fun _ op1 _ => .ldyImm op1⟩,
  ⟨0xFF#8, 0xA4#8, 2, fun _ op1 _ => .ldyZp op1⟩,
  ⟨0xFF#8, 0xAC#8, 3, fun _ op1 op2 => .ldyAbs (mkWord op2 op1)⟩,
  ⟨0xFF#8, 0xB4#8, 2, fun _ op1 _ => .ldyZpx op1⟩,
  ⟨0xFF#8, 0xBC#8, 3, fun _ op1 op2 => .ldyAbsx (mkWord op2 op1)⟩,
  ⟨0xFF#8, 0x81#8, 2, fun _ op1 _ => .staIndx op1⟩,
  ⟨0xFF#8, 0x85#8, 2, fun _ op1 _ => .staZp op1⟩,
  ⟨0xFF#8, 0x8D#8, 3, fun _ op1 op2 => .staAbs (mkWord op2 op1)⟩,
  ⟨0xFF#8, 0x91#8, 2, fun _ op1 _ => .staIndy op1⟩,
  ⟨0xFF#8, 0x95#8, 2, fun _ op1 _ => .staZpx op1⟩,
  ⟨0xFF#8, 0x99#8, 3, fun _ op1 op2 => .staAbsy (mkWord op2 op1)⟩,
  ⟨0xFF#8, 0x9D#8, 3, fun _ op1 op2 => .staAbsx (mkWord op2 op1)⟩,
  ⟨0xFF#8, 0x86#8, 2, fun _ op1 _ => .stxZp op1⟩,
  ⟨0xFF#8, 0x8E#8, 3, fun _ op1 op2 => .stxAbs (mkWord op2 op1)⟩,
  ⟨0xFF#8, 0x96#8, 2, fun _ op1 _ => .stxZpy op1⟩,
  ⟨0xFF#8, 0x84#8, 2, fun _ op1 _ => .styZp op1⟩,
  ⟨0xFF#8, 0x8C#8, 3, fun _ op1 op2 => .styAbs (mkWord op2 op1)⟩,
  ⟨0xFF#8, 0x94#8, 2, fun _ op1 _ => .styZpx op1⟩,
  ⟨0xFF#8, 0xAA#8, 1, fun _ _ _ => .tax⟩,
  ⟨0xFF#8, 0x8A#8, 1, fun _ _ _ => .txa⟩,
  ⟨0xFF#8, 0xA8#8, 1, fun _ _ _ => .tay⟩,
  ⟨0xFF#8, 0x98#8, 1, fun _ _ _ => .tya⟩,
  ⟨0xFF#8, 0xBA#8, 1, fun _ _ _ => .tsx⟩,
  ⟨0xFF#8, 0x9A#8, 1, fun _ _ _ => .txs⟩,
  ⟨0xFF#8, 0x48#8, 1, fun _ _ _ => .pha⟩,
  ⟨0xFF#8, 0x08#8, 1, fun _ _ _ => .php⟩,
  ⟨0xFF#8, 0x68#8, 1, fun _ _ _ => .pla⟩,
  ⟨0xFF#8, 0x28#8, 1, fun _ _ _ => .plp⟩
]

/-- Arithmetic (42_operating_arithmetic.md): the rows of 30_encoding.md R97 and R98. -/
def rowsArithmetic : List OpcodeRow := [
  ⟨0xFF#8, 0x61#8, 2, fun _ op1 _ => .adcIndx op1⟩,
  ⟨0xFF#8, 0x65#8, 2, fun _ op1 _ => .adcZp op1⟩,
  ⟨0xFF#8, 0x69#8, 2, fun _ op1 _ => .adcImm op1⟩,
  ⟨0xFF#8, 0x6D#8, 3, fun _ op1 op2 => .adcAbs (mkWord op2 op1)⟩,
  ⟨0xFF#8, 0x71#8, 2, fun _ op1 _ => .adcIndy op1⟩,
  ⟨0xFF#8, 0x75#8, 2, fun _ op1 _ => .adcZpx op1⟩,
  ⟨0xFF#8, 0x79#8, 3, fun _ op1 op2 => .adcAbsy (mkWord op2 op1)⟩,
  ⟨0xFF#8, 0x7D#8, 3, fun _ op1 op2 => .adcAbsx (mkWord op2 op1)⟩,
  ⟨0xFF#8, 0xE1#8, 2, fun _ op1 _ => .sbcIndx op1⟩,
  ⟨0xFF#8, 0xE5#8, 2, fun _ op1 _ => .sbcZp op1⟩,
  ⟨0xFF#8, 0xE9#8, 2, fun _ op1 _ => .sbcImm op1⟩,
  ⟨0xFF#8, 0xED#8, 3, fun _ op1 op2 => .sbcAbs (mkWord op2 op1)⟩,
  ⟨0xFF#8, 0xF1#8, 2, fun _ op1 _ => .sbcIndy op1⟩,
  ⟨0xFF#8, 0xF5#8, 2, fun _ op1 _ => .sbcZpx op1⟩,
  ⟨0xFF#8, 0xF9#8, 3, fun _ op1 op2 => .sbcAbsy (mkWord op2 op1)⟩,
  ⟨0xFF#8, 0xFD#8, 3, fun _ op1 op2 => .sbcAbsx (mkWord op2 op1)⟩,
  ⟨0xFF#8, 0x3A#8, 1, fun _ _ _ => .incAcc⟩,
  ⟨0xFF#8, 0xE6#8, 2, fun _ op1 _ => .incZp op1⟩,
  ⟨0xFF#8, 0xEE#8, 3, fun _ op1 op2 => .incAbs (mkWord op2 op1)⟩,
  ⟨0xFF#8, 0xF6#8, 2, fun _ op1 _ => .incZpx op1⟩,
  ⟨0xFF#8, 0xFE#8, 3, fun _ op1 op2 => .incAbsx (mkWord op2 op1)⟩,
  ⟨0xFF#8, 0x1A#8, 1, fun _ _ _ => .decAcc⟩,
  ⟨0xFF#8, 0xC6#8, 2, fun _ op1 _ => .decZp op1⟩,
  ⟨0xFF#8, 0xCE#8, 3, fun _ op1 op2 => .decAbs (mkWord op2 op1)⟩,
  ⟨0xFF#8, 0xD6#8, 2, fun _ op1 _ => .decZpx op1⟩,
  ⟨0xFF#8, 0xDE#8, 3, fun _ op1 op2 => .decAbsx (mkWord op2 op1)⟩,
  ⟨0xFF#8, 0xE8#8, 1, fun _ _ _ => .inx⟩,
  ⟨0xFF#8, 0xCA#8, 1, fun _ _ _ => .dex⟩,
  ⟨0xFF#8, 0xC8#8, 1, fun _ _ _ => .iny⟩,
  ⟨0xFF#8, 0x88#8, 1, fun _ _ _ => .dey⟩,
  ⟨0xFF#8, 0x62#8, 2, fun _ op1 _ => .mulZpx op1⟩,
  ⟨0xFF#8, 0xE2#8, 2, fun _ op1 _ => .divZpx op1⟩,
  ⟨0xFF#8, 0xC1#8, 2, fun _ op1 _ => .cmpIndx op1⟩,
  ⟨0xFF#8, 0xC5#8, 2, fun _ op1 _ => .cmpZp op1⟩,
  ⟨0xFF#8, 0xC9#8, 2, fun _ op1 _ => .cmpImm op1⟩,
  ⟨0xFF#8, 0xCD#8, 3, fun _ op1 op2 => .cmpAbs (mkWord op2 op1)⟩,
  ⟨0xFF#8, 0xD1#8, 2, fun _ op1 _ => .cmpIndy op1⟩,
  ⟨0xFF#8, 0xD5#8, 2, fun _ op1 _ => .cmpZpx op1⟩,
  ⟨0xFF#8, 0xD9#8, 3, fun _ op1 op2 => .cmpAbsy (mkWord op2 op1)⟩,
  ⟨0xFF#8, 0xDD#8, 3, fun _ op1 op2 => .cmpAbsx (mkWord op2 op1)⟩,
  ⟨0xFF#8, 0xE0#8, 2, fun _ op1 _ => .cpxImm op1⟩,
  ⟨0xFF#8, 0xE4#8, 2, fun _ op1 _ => .cpxZp op1⟩,
  ⟨0xFF#8, 0xEC#8, 3, fun _ op1 op2 => .cpxAbs (mkWord op2 op1)⟩,
  ⟨0xFF#8, 0xC0#8, 2, fun _ op1 _ => .cpyImm op1⟩,
  ⟨0xFF#8, 0xC4#8, 2, fun _ op1 _ => .cpyZp op1⟩,
  ⟨0xFF#8, 0xCC#8, 3, fun _ op1 op2 => .cpyAbs (mkWord op2 op1)⟩
]

/-- Logic, test, shift and rotate (43_operating_logic_shift.md): the rows of 30_encoding.md R97 and R98. -/
def rowsLogicShift : List OpcodeRow := [
  ⟨0xFF#8, 0x21#8, 2, fun _ op1 _ => .andIndx op1⟩,
  ⟨0xFF#8, 0x25#8, 2, fun _ op1 _ => .andZp op1⟩,
  ⟨0xFF#8, 0x29#8, 2, fun _ op1 _ => .andImm op1⟩,
  ⟨0xFF#8, 0x2D#8, 3, fun _ op1 op2 => .andAbs (mkWord op2 op1)⟩,
  ⟨0xFF#8, 0x31#8, 2, fun _ op1 _ => .andIndy op1⟩,
  ⟨0xFF#8, 0x35#8, 2, fun _ op1 _ => .andZpx op1⟩,
  ⟨0xFF#8, 0x39#8, 3, fun _ op1 op2 => .andAbsy (mkWord op2 op1)⟩,
  ⟨0xFF#8, 0x3D#8, 3, fun _ op1 op2 => .andAbsx (mkWord op2 op1)⟩,
  ⟨0xFF#8, 0x01#8, 2, fun _ op1 _ => .oraIndx op1⟩,
  ⟨0xFF#8, 0x05#8, 2, fun _ op1 _ => .oraZp op1⟩,
  ⟨0xFF#8, 0x09#8, 2, fun _ op1 _ => .oraImm op1⟩,
  ⟨0xFF#8, 0x0D#8, 3, fun _ op1 op2 => .oraAbs (mkWord op2 op1)⟩,
  ⟨0xFF#8, 0x11#8, 2, fun _ op1 _ => .oraIndy op1⟩,
  ⟨0xFF#8, 0x15#8, 2, fun _ op1 _ => .oraZpx op1⟩,
  ⟨0xFF#8, 0x19#8, 3, fun _ op1 op2 => .oraAbsy (mkWord op2 op1)⟩,
  ⟨0xFF#8, 0x1D#8, 3, fun _ op1 op2 => .oraAbsx (mkWord op2 op1)⟩,
  ⟨0xFF#8, 0x41#8, 2, fun _ op1 _ => .eorIndx op1⟩,
  ⟨0xFF#8, 0x45#8, 2, fun _ op1 _ => .eorZp op1⟩,
  ⟨0xFF#8, 0x49#8, 2, fun _ op1 _ => .eorImm op1⟩,
  ⟨0xFF#8, 0x4D#8, 3, fun _ op1 op2 => .eorAbs (mkWord op2 op1)⟩,
  ⟨0xFF#8, 0x51#8, 2, fun _ op1 _ => .eorIndy op1⟩,
  ⟨0xFF#8, 0x55#8, 2, fun _ op1 _ => .eorZpx op1⟩,
  ⟨0xFF#8, 0x59#8, 3, fun _ op1 op2 => .eorAbsy (mkWord op2 op1)⟩,
  ⟨0xFF#8, 0x5D#8, 3, fun _ op1 op2 => .eorAbsx (mkWord op2 op1)⟩,
  ⟨0xFF#8, 0x44#8, 2, fun _ op1 _ => .comZp op1⟩,
  ⟨0xFF#8, 0x24#8, 2, fun _ op1 _ => .bitZp op1⟩,
  ⟨0xFF#8, 0x2C#8, 3, fun _ op1 op2 => .bitAbs (mkWord op2 op1)⟩,
  ⟨0xFF#8, 0x64#8, 2, fun _ op1 _ => .tstZp op1⟩,
  ⟨0xFF#8, 0x06#8, 2, fun _ op1 _ => .aslZp op1⟩,
  ⟨0xFF#8, 0x0A#8, 1, fun _ _ _ => .aslAcc⟩,
  ⟨0xFF#8, 0x0E#8, 3, fun _ op1 op2 => .aslAbs (mkWord op2 op1)⟩,
  ⟨0xFF#8, 0x16#8, 2, fun _ op1 _ => .aslZpx op1⟩,
  ⟨0xFF#8, 0x1E#8, 3, fun _ op1 op2 => .aslAbsx (mkWord op2 op1)⟩,
  ⟨0xFF#8, 0x46#8, 2, fun _ op1 _ => .lsrZp op1⟩,
  ⟨0xFF#8, 0x4A#8, 1, fun _ _ _ => .lsrAcc⟩,
  ⟨0xFF#8, 0x4E#8, 3, fun _ op1 op2 => .lsrAbs (mkWord op2 op1)⟩,
  ⟨0xFF#8, 0x56#8, 2, fun _ op1 _ => .lsrZpx op1⟩,
  ⟨0xFF#8, 0x5E#8, 3, fun _ op1 op2 => .lsrAbsx (mkWord op2 op1)⟩,
  ⟨0xFF#8, 0x26#8, 2, fun _ op1 _ => .rolZp op1⟩,
  ⟨0xFF#8, 0x2A#8, 1, fun _ _ _ => .rolAcc⟩,
  ⟨0xFF#8, 0x2E#8, 3, fun _ op1 op2 => .rolAbs (mkWord op2 op1)⟩,
  ⟨0xFF#8, 0x36#8, 2, fun _ op1 _ => .rolZpx op1⟩,
  ⟨0xFF#8, 0x3E#8, 3, fun _ op1 op2 => .rolAbsx (mkWord op2 op1)⟩,
  ⟨0xFF#8, 0x66#8, 2, fun _ op1 _ => .rorZp op1⟩,
  ⟨0xFF#8, 0x6A#8, 1, fun _ _ _ => .rorAcc⟩,
  ⟨0xFF#8, 0x6E#8, 3, fun _ op1 op2 => .rorAbs (mkWord op2 op1)⟩,
  ⟨0xFF#8, 0x76#8, 2, fun _ op1 _ => .rorZpx op1⟩,
  ⟨0xFF#8, 0x7E#8, 3, fun _ op1 op2 => .rorAbsx (mkWord op2 op1)⟩,
  ⟨0xFF#8, 0x82#8, 2, fun _ op1 _ => .rrfZp op1⟩
]

/-- Bit managing (44_bit_managing.md): the rows of 30_encoding.md R97 and R98. -/
def rowsBitManaging : List OpcodeRow := [
  ⟨0x1F#8, 0x1B#8, 1, fun op _ _ => .clbAcc (opcodeBit op)⟩,
  ⟨0x1F#8, 0x1F#8, 2, fun op op1 _ => .clbZp (opcodeBit op) op1⟩,
  ⟨0x1F#8, 0x0B#8, 1, fun op _ _ => .sebAcc (opcodeBit op)⟩,
  ⟨0x1F#8, 0x0F#8, 2, fun op op1 _ => .sebZp (opcodeBit op) op1⟩
]

/-- Flag setting (45_flag_setting.md): the rows of 30_encoding.md R97 and R98. -/
def rowsFlagSetting : List OpcodeRow := [
  ⟨0xFF#8, 0x18#8, 1, fun _ _ _ => .clc⟩,
  ⟨0xFF#8, 0x38#8, 1, fun _ _ _ => .sec⟩,
  ⟨0xFF#8, 0xD8#8, 1, fun _ _ _ => .cld⟩,
  ⟨0xFF#8, 0xF8#8, 1, fun _ _ _ => .sed⟩,
  ⟨0xFF#8, 0x58#8, 1, fun _ _ _ => .cli⟩,
  ⟨0xFF#8, 0x78#8, 1, fun _ _ _ => .sei⟩,
  ⟨0xFF#8, 0x12#8, 1, fun _ _ _ => .clt⟩,
  ⟨0xFF#8, 0x32#8, 1, fun _ _ _ => .set⟩,
  ⟨0xFF#8, 0xB8#8, 1, fun _ _ _ => .clv⟩
]

/-- Jump, branch and return (46_jump_branch_return.md): the rows of 30_encoding.md R97 and R98. -/
def rowsJumpBranch : List OpcodeRow := [
  ⟨0xFF#8, 0x4C#8, 3, fun _ op1 op2 => .jmpAbs (mkWord op2 op1)⟩,
  ⟨0xFF#8, 0x6C#8, 3, fun _ op1 op2 => .jmpInd (mkWord op2 op1)⟩,
  ⟨0xFF#8, 0xB2#8, 2, fun _ op1 _ => .jmpZpind op1⟩,
  ⟨0xFF#8, 0x80#8, 2, fun _ op1 _ => .bra op1⟩,
  ⟨0xFF#8, 0x02#8, 2, fun _ op1 _ => .jsrZpind op1⟩,
  ⟨0xFF#8, 0x20#8, 3, fun _ op1 op2 => .jsrAbs (mkWord op2 op1)⟩,
  ⟨0xFF#8, 0x22#8, 2, fun _ op1 _ => .jsrSp op1⟩,
  ⟨0xFF#8, 0x60#8, 1, fun _ _ _ => .rts⟩,
  ⟨0xFF#8, 0x40#8, 1, fun _ _ _ => .rti⟩,
  ⟨0x1F#8, 0x13#8, 2, fun op op1 _ => .bbcAcc (opcodeBit op) op1⟩,
  ⟨0x1F#8, 0x17#8, 3, fun op op1 op2 => .bbcZp (opcodeBit op) op1 op2⟩,
  ⟨0x1F#8, 0x03#8, 2, fun op op1 _ => .bbsAcc (opcodeBit op) op1⟩,
  ⟨0x1F#8, 0x07#8, 3, fun op op1 op2 => .bbsZp (opcodeBit op) op1 op2⟩,
  ⟨0xFF#8, 0x90#8, 2, fun _ op1 _ => .bcc op1⟩,
  ⟨0xFF#8, 0xB0#8, 2, fun _ op1 _ => .bcs op1⟩,
  ⟨0xFF#8, 0xD0#8, 2, fun _ op1 _ => .bne op1⟩,
  ⟨0xFF#8, 0xF0#8, 2, fun _ op1 _ => .beq op1⟩,
  ⟨0xFF#8, 0x10#8, 2, fun _ op1 _ => .bpl op1⟩,
  ⟨0xFF#8, 0x30#8, 2, fun _ op1 _ => .bmi op1⟩,
  ⟨0xFF#8, 0x50#8, 2, fun _ op1 _ => .bvc op1⟩,
  ⟨0xFF#8, 0x70#8, 2, fun _ op1 _ => .bvs op1⟩
]

/-- Interrupt, special, other (47_interrupt_special_other.md): the rows of 30_encoding.md R97 and R98. -/
def rowsSpecial : List OpcodeRow := [
  ⟨0xFF#8, 0x00#8, 1, fun _ _ _ => .brk⟩,
  ⟨0xFF#8, 0xC2#8, 1, fun _ _ _ => .wit⟩,
  ⟨0xFF#8, 0x42#8, 1, fun _ _ _ => .stp⟩,
  ⟨0xFF#8, 0xEA#8, 1, fun _ _ _ => .nop⟩
]

/-- The opcode table: 175 rows, 231 Op-Code bytes (R97). -/
def opcodeTable : List OpcodeRow :=
  rowsDataTransfer ++ rowsArithmetic ++ rowsLogicShift ++ rowsBitManaging ++ rowsFlagSetting ++ rowsJumpBranch ++ rowsSpecial

/-- The row an Op-Code selects, if any: the length and the mode follow from this byte alone (R92). -/
def opcodeRow (op : Byte) : Option OpcodeRow := opcodeTable.find? fun r => op &&& r.mask == r.pattern

/-- Decodes the instruction at the head of a byte list, and gives the bytes after it. Total; it rejects by name. -/
def decode : List Byte → Except DecodeError (Instr × List Byte)
  | [] => .error .truncated
  | op :: rest =>
    match opcodeRow op with
    | none => .error (.undefinedOpcode op)
    | some r =>
      match r.length, rest with
      | 1, rest => .ok (r.build op 0 0, rest)
      | 2, op1 :: rest => .ok (r.build op op1 0, rest)
      | 3, op1 :: op2 :: rest => .ok (r.build op op1 op2, rest)
      | _, _ => .error .truncated

/-- The instruction whose bytes are the `nbits` low bits of `w`, the first byte in bits 7-0, the second in bits 15-8, the
third in bits 23-16; bits above `nbits` are 0. -/
def decodeTableWord (nbits w : Nat) : Option Instr :=
  let v := w % 2 ^ nbits
  match decode [byteOfNat v 0, byteOfNat v 1, byteOfNat v 2] with
  | .ok (i, _) => some i
  | .error _ => none

/-- The bytes of an instruction (R91, R94, R95, R98). -/
def encode : Instr → List Byte
  | .ldaIndx zz => [0xA1#8, zz]
  | .ldaZp zz => [0xA5#8, zz]
  | .ldaImm imm => [0xA9#8, imm]
  | .ldaAbs addr => [0xAD#8, lowByte addr, highByte addr]
  | .ldaIndy zz => [0xB1#8, zz]
  | .ldaZpx zz => [0xB5#8, zz]
  | .ldaAbsy addr => [0xB9#8, lowByte addr, highByte addr]
  | .ldaAbsx addr => [0xBD#8, lowByte addr, highByte addr]
  | .ldm imm zz => [0x3C#8, imm, zz]
  | .ldxImm imm => [0xA2#8, imm]
  | .ldxZp zz => [0xA6#8, zz]
  | .ldxAbs addr => [0xAE#8, lowByte addr, highByte addr]
  | .ldxZpy zz => [0xB6#8, zz]
  | .ldxAbsy addr => [0xBE#8, lowByte addr, highByte addr]
  | .ldyImm imm => [0xA0#8, imm]
  | .ldyZp zz => [0xA4#8, zz]
  | .ldyAbs addr => [0xAC#8, lowByte addr, highByte addr]
  | .ldyZpx zz => [0xB4#8, zz]
  | .ldyAbsx addr => [0xBC#8, lowByte addr, highByte addr]
  | .staIndx zz => [0x81#8, zz]
  | .staZp zz => [0x85#8, zz]
  | .staAbs addr => [0x8D#8, lowByte addr, highByte addr]
  | .staIndy zz => [0x91#8, zz]
  | .staZpx zz => [0x95#8, zz]
  | .staAbsy addr => [0x99#8, lowByte addr, highByte addr]
  | .staAbsx addr => [0x9D#8, lowByte addr, highByte addr]
  | .stxZp zz => [0x86#8, zz]
  | .stxAbs addr => [0x8E#8, lowByte addr, highByte addr]
  | .stxZpy zz => [0x96#8, zz]
  | .styZp zz => [0x84#8, zz]
  | .styAbs addr => [0x8C#8, lowByte addr, highByte addr]
  | .styZpx zz => [0x94#8, zz]
  | .tax => [0xAA#8]
  | .txa => [0x8A#8]
  | .tay => [0xA8#8]
  | .tya => [0x98#8]
  | .tsx => [0xBA#8]
  | .txs => [0x9A#8]
  | .pha => [0x48#8]
  | .php => [0x08#8]
  | .pla => [0x68#8]
  | .plp => [0x28#8]
  | .adcIndx zz => [0x61#8, zz]
  | .adcZp zz => [0x65#8, zz]
  | .adcImm imm => [0x69#8, imm]
  | .adcAbs addr => [0x6D#8, lowByte addr, highByte addr]
  | .adcIndy zz => [0x71#8, zz]
  | .adcZpx zz => [0x75#8, zz]
  | .adcAbsy addr => [0x79#8, lowByte addr, highByte addr]
  | .adcAbsx addr => [0x7D#8, lowByte addr, highByte addr]
  | .sbcIndx zz => [0xE1#8, zz]
  | .sbcZp zz => [0xE5#8, zz]
  | .sbcImm imm => [0xE9#8, imm]
  | .sbcAbs addr => [0xED#8, lowByte addr, highByte addr]
  | .sbcIndy zz => [0xF1#8, zz]
  | .sbcZpx zz => [0xF5#8, zz]
  | .sbcAbsy addr => [0xF9#8, lowByte addr, highByte addr]
  | .sbcAbsx addr => [0xFD#8, lowByte addr, highByte addr]
  | .incAcc => [0x3A#8]
  | .incZp zz => [0xE6#8, zz]
  | .incAbs addr => [0xEE#8, lowByte addr, highByte addr]
  | .incZpx zz => [0xF6#8, zz]
  | .incAbsx addr => [0xFE#8, lowByte addr, highByte addr]
  | .decAcc => [0x1A#8]
  | .decZp zz => [0xC6#8, zz]
  | .decAbs addr => [0xCE#8, lowByte addr, highByte addr]
  | .decZpx zz => [0xD6#8, zz]
  | .decAbsx addr => [0xDE#8, lowByte addr, highByte addr]
  | .inx => [0xE8#8]
  | .dex => [0xCA#8]
  | .iny => [0xC8#8]
  | .dey => [0x88#8]
  | .mulZpx zz => [0x62#8, zz]
  | .divZpx zz => [0xE2#8, zz]
  | .cmpIndx zz => [0xC1#8, zz]
  | .cmpZp zz => [0xC5#8, zz]
  | .cmpImm imm => [0xC9#8, imm]
  | .cmpAbs addr => [0xCD#8, lowByte addr, highByte addr]
  | .cmpIndy zz => [0xD1#8, zz]
  | .cmpZpx zz => [0xD5#8, zz]
  | .cmpAbsy addr => [0xD9#8, lowByte addr, highByte addr]
  | .cmpAbsx addr => [0xDD#8, lowByte addr, highByte addr]
  | .cpxImm imm => [0xE0#8, imm]
  | .cpxZp zz => [0xE4#8, zz]
  | .cpxAbs addr => [0xEC#8, lowByte addr, highByte addr]
  | .cpyImm imm => [0xC0#8, imm]
  | .cpyZp zz => [0xC4#8, zz]
  | .cpyAbs addr => [0xCC#8, lowByte addr, highByte addr]
  | .andIndx zz => [0x21#8, zz]
  | .andZp zz => [0x25#8, zz]
  | .andImm imm => [0x29#8, imm]
  | .andAbs addr => [0x2D#8, lowByte addr, highByte addr]
  | .andIndy zz => [0x31#8, zz]
  | .andZpx zz => [0x35#8, zz]
  | .andAbsy addr => [0x39#8, lowByte addr, highByte addr]
  | .andAbsx addr => [0x3D#8, lowByte addr, highByte addr]
  | .oraIndx zz => [0x01#8, zz]
  | .oraZp zz => [0x05#8, zz]
  | .oraImm imm => [0x09#8, imm]
  | .oraAbs addr => [0x0D#8, lowByte addr, highByte addr]
  | .oraIndy zz => [0x11#8, zz]
  | .oraZpx zz => [0x15#8, zz]
  | .oraAbsy addr => [0x19#8, lowByte addr, highByte addr]
  | .oraAbsx addr => [0x1D#8, lowByte addr, highByte addr]
  | .eorIndx zz => [0x41#8, zz]
  | .eorZp zz => [0x45#8, zz]
  | .eorImm imm => [0x49#8, imm]
  | .eorAbs addr => [0x4D#8, lowByte addr, highByte addr]
  | .eorIndy zz => [0x51#8, zz]
  | .eorZpx zz => [0x55#8, zz]
  | .eorAbsy addr => [0x59#8, lowByte addr, highByte addr]
  | .eorAbsx addr => [0x5D#8, lowByte addr, highByte addr]
  | .comZp zz => [0x44#8, zz]
  | .bitZp zz => [0x24#8, zz]
  | .bitAbs addr => [0x2C#8, lowByte addr, highByte addr]
  | .tstZp zz => [0x64#8, zz]
  | .aslZp zz => [0x06#8, zz]
  | .aslAcc => [0x0A#8]
  | .aslAbs addr => [0x0E#8, lowByte addr, highByte addr]
  | .aslZpx zz => [0x16#8, zz]
  | .aslAbsx addr => [0x1E#8, lowByte addr, highByte addr]
  | .lsrZp zz => [0x46#8, zz]
  | .lsrAcc => [0x4A#8]
  | .lsrAbs addr => [0x4E#8, lowByte addr, highByte addr]
  | .lsrZpx zz => [0x56#8, zz]
  | .lsrAbsx addr => [0x5E#8, lowByte addr, highByte addr]
  | .rolZp zz => [0x26#8, zz]
  | .rolAcc => [0x2A#8]
  | .rolAbs addr => [0x2E#8, lowByte addr, highByte addr]
  | .rolZpx zz => [0x36#8, zz]
  | .rolAbsx addr => [0x3E#8, lowByte addr, highByte addr]
  | .rorZp zz => [0x66#8, zz]
  | .rorAcc => [0x6A#8]
  | .rorAbs addr => [0x6E#8, lowByte addr, highByte addr]
  | .rorZpx zz => [0x76#8, zz]
  | .rorAbsx addr => [0x7E#8, lowByte addr, highByte addr]
  | .rrfZp zz => [0x82#8, zz]
  | .clbAcc b => [(b ++ 0x1B#5)]
  | .clbZp b zz => [(b ++ 0x1F#5), zz]
  | .sebAcc b => [(b ++ 0x0B#5)]
  | .sebZp b zz => [(b ++ 0x0F#5), zz]
  | .clc => [0x18#8]
  | .sec => [0x38#8]
  | .cld => [0xD8#8]
  | .sed => [0xF8#8]
  | .cli => [0x58#8]
  | .sei => [0x78#8]
  | .clt => [0x12#8]
  | .set => [0x32#8]
  | .clv => [0xB8#8]
  | .jmpAbs addr => [0x4C#8, lowByte addr, highByte addr]
  | .jmpInd addr => [0x6C#8, lowByte addr, highByte addr]
  | .jmpZpind zz => [0xB2#8, zz]
  | .bra disp => [0x80#8, disp]
  | .jsrZpind zz => [0x02#8, zz]
  | .jsrAbs addr => [0x20#8, lowByte addr, highByte addr]
  | .jsrSp pp => [0x22#8, pp]
  | .rts => [0x60#8]
  | .rti => [0x40#8]
  | .bbcAcc b disp => [(b ++ 0x13#5), disp]
  | .bbcZp b zz disp => [(b ++ 0x17#5), zz, disp]
  | .bbsAcc b disp => [(b ++ 0x03#5), disp]
  | .bbsZp b zz disp => [(b ++ 0x07#5), zz, disp]
  | .bcc disp => [0x90#8, disp]
  | .bcs disp => [0xB0#8, disp]
  | .bne disp => [0xD0#8, disp]
  | .beq disp => [0xF0#8, disp]
  | .bpl disp => [0x10#8, disp]
  | .bmi disp => [0x30#8, disp]
  | .bvc disp => [0x50#8, disp]
  | .bvs disp => [0x70#8, disp]
  | .brk => [0x00#8]
  | .wit => [0xC2#8]
  | .stp => [0x42#8]
  | .nop => [0xEA#8]

end Sys2Proof
end

