-- ==== Sys2Proof/Machine/Fetch.lean ====
section
/-! DEFINITION. Fetching the next instruction (R30, R92). -/

namespace Sys2Proof.Machine

/-- The three bytes at the PC, in ascending address order modulo 65536 (R32, R91). A shorter instruction uses only the
first ones. -/
def State.fetchBytes (s : State) : List Byte :=
  [s.read .fetch s.pc, s.read .fetch (s.pc + 1), s.read .fetch (s.pc + 2)]

/-- The instruction at the PC, or none where the bytes select no instruction (R92, R99). -/
def State.fetchInstr (s : State) : Option Instr :=
  match decode s.fetchBytes with
  | .ok (i, _) => some i
  | .error _ => none

/-- Loads a byte from outside, into the cell itself, whatever its region's writes do (R14: program bytes are a
parameter). -/
def State.load (s : State) (a : Word) (v : Byte) : State := { s with mem := Memory.store s.mem a.toNat v }

/-- Loads one instruction where the next step fetches: its bytes at PC, PC + 1 and PC + 2 are those of the `nbits` low
bits of `w`, the rest zero (log 4). -/
def State.loadInstr (s : State) (nbits w : Nat) : State :=
  let v := w % 2 ^ nbits
  ((s.load s.pc (byteOfNat v 0)).load (s.pc + 1) (byteOfNat v 1)).load (s.pc + 2) (byteOfNat v 2)

end Sys2Proof.Machine
end

