-- ==== Sys2Proof/Machine/Run.lean ====
section
/-! DEFINITION. What one step of the CPU does (R14). -/

namespace Sys2Proof.Machine

/-- One instruction of a running CPU: fetched, then executed, or refused where the bytes select none (R14, R99). -/
def runInstr (s : State) : Result :=
  match s.fetchInstr with
  | some i => tickResult (exec i s)
  | none => .refused (.undefinedOpcode (s.read .fetch s.pc))

/-- At the boundary an accepted interrupt is entered (R324, R326); otherwise a running CPU executes one instruction,
and a waiting or stopped CPU stays as it is (R301, R302). -/
def cpuStep (s : State) : Result :=
  match s.acceptedRequest with
  | some k => .next (s.interruptEntry k).tick
  | none =>
    match s.runState with
    | .running => runInstr s
    | .waiting | .stopped => .next s.tick

end Sys2Proof.Machine
end

