-- ==== Sys2Proof/Machine/Step.lean ====
section
/-! DEFINITION. The step function and the load of one instruction, under the names the host fixes. -/

namespace Sys2Proof.Machine

/-- One step of the machine: an interrupt entry, an instruction, or an idle moment (R14). -/
def step (s : State) : Host.Outcome State Fault Refusal := cpuStep s

/-- The state with one instruction loaded where the next step fetches. It stands for the load of a program from outside
the machine (R14, log 4). -/
def State.withFetchWord (s : State) (nbits w : Nat) : State := s.loadInstr nbits w

end Sys2Proof.Machine
end

