-- ==== Sys2Proof/Machine/Environment.lean ====
section
/-! DEFINITION. The environment's moves (R14, R15): not steps of the CPU. A device raises or drops a request or has its
enable bit changed; hardware reset, between two steps or in the middle of one. A device cell's change needs no move,
since every read of one is free (log 9). -/

namespace Sys2Proof.Machine

/-- A device raises or drops request `k`: `pending[k]` becomes `b` (R14 (a), R322). -/
def State.setRequest (s : State) (k : Nat) (b : Bool) : State := s.setPending k b

/-- The enable bit of source `k` in its device register becomes `b` (R322). -/
def State.setEnable (s : State) (k : Nat) (b : Bool) : State := { s with enabled := s.enabled.set k b }

/-! ## Hardware reset -/

/-- Hardware reset between two steps, and the end of every other one (R360 to R362): I is 1 and the other register bits
are draws, nothing is pushed, the PC is read from the reset vector, the CPU runs, nothing is pending or enabled; memory
keeps its contents. -/
def State.hardwareReset (s : State) : State :=
  { s with
    a := Config.freeByte .resetA s.draws
    x := Config.freeByte .resetX s.draws
    y := Config.freeByte .resetY s.draws
    sp := Config.freeByte .resetS s.draws
    ps := setBit (Config.freeByte .resetPS s.draws) Flag.i.index true
    pc := s.vectorTarget s.cfg.resetVector
    pending := s.pending.map fun _ => false
    enabled := s.enabled.map fun _ => false
    runState := .running
    decPending := false
    oldI := none
    draws := s.draws + 1 }

/-- The bytes an instruction pushes where it pushes more than one: BRK and JSR (R300, R273). Every other instruction
makes one store or none (R70). -/
def pushSequence (i : Instr) (s : State) : List Byte :=
  match i with
  | .brk => s.entryBytes true (s.pc + 2)
  | .jsrAbs _ => pushOrder (s.returnAddress 3)
  | .jsrSp _ | .jsrZpind _ => pushOrder (s.returnAddress 2)
  | _ => []

/-- An instruction cut short after its first `n` stores (R362, R70). Only its memory counts: reset leaves nothing else of
it. -/
def cutShort (n : Nat) (i : Instr) (s : State) : Result :=
  match exec i s with
  | .next t =>
    match pushSequence i s with
    | [] => .next (if n = 0 then s else t)
    | v :: rest => .next (s.pushAll ((v :: rest).take n))
  | .fault r => .fault r
  | .refused r => .refused r

/-- `hardwareReset` on the next state of an answer. -/
def resetResult : Result → Result
  | .next s => .next s.hardwareReset
  | .fault r => .fault r
  | .refused r => .refused r

/-- Hardware reset in the middle of the step that `step` would make, after its first `n` stores: it overrides an
instruction in progress (R360), whose accesses done so far stand in memory (R362), an interrupt entry likewise, and both
power states. A step the model refuses is refused here too. -/
def State.resetDuring (s : State) (n : Nat) : Result :=
  match s.acceptedRequest with
  | some _ => .next (s.pushAll ((s.entryBytes false s.pc).take n)).hardwareReset
  | none =>
    match s.runState with
    | .running =>
      match s.fetchInstr with
      | some i => resetResult (cutShort n i s)
      | none => .refused (.undefinedOpcode (s.read .fetch s.pc))
    | .waiting | .stopped => .next s.hardwareReset

end Sys2Proof.Machine
end

