-- ==== Sys2Proof/Safety.lean ====
section
/-! DEFINITION. The words the statements use: what a step keeps, what an instruction leaves unchanged, and the
invariant of the machine. -/

namespace Sys2Proof.Machine

/-- The data registers of R20. -/
inductive Reg where
  | a | x | y | s
  deriving DecidableEq, Repr

/-- The contents of a data register. -/
def State.reg (s : State) : Reg → Byte
  | .a => s.a
  | .x => s.x
  | .y => s.y
  | .s => s.sp

/-- Every register outside `rs` holds the same. -/
def KeepsRegs (rs : List Reg) (s t : State) : Prop := ∀ r, r ∉ rs → t.reg r = s.reg r

/-- Every flag outside `fs` holds the same. -/
def KeepsFlags (fs : List Flag) (s t : State) : Prop := ∀ f, f ∉ fs → t.flag f = s.flag f

/-- Every byte of memory outside `as` reads the same, whatever the access. -/
def KeepsMem (as : List Word) (s t : State) : Prop := ∀ k a, a ∉ as → t.read k a = s.read k a

/-- The interrupt bits, the run state and the parameters are the same. -/
def KeepsSystem (s t : State) : Prop :=
  t.pending = s.pending ∧ t.enabled = s.enabled ∧ t.runState = s.runState ∧ t.cfg = s.cfg

/-- The frame of an instruction that writes at most the registers `rs`, the flags `fs` and the bytes at `as`. -/
def Keeps (rs : List Reg) (fs : List Flag) (as : List Word) (s t : State) : Prop :=
  KeepsRegs rs s t ∧ KeepsFlags fs s t ∧ KeepsMem as s t ∧ KeepsSystem s t

/-- How an instruction ends (R150): the PC, and `dec_pending` false. -/
def EndsAt (pc : Word) (t : State) : Prop := t.pc = pc ∧ t.decPending = false

/-- What a store of `v` at `a` leaves there: RAM reads as `v`, any other address reads as before (R71, D16). -/
def Stored (a : Word) (v : Byte) (s t : State) : Prop :=
  ∀ k, t.read k a = if s.kindAt a = .ram then v else s.read k a

/-- N is bit 7 of `v` and Z says that `v` is 0 (R11, `setNZ`). -/
def ShowsNZ (v : Byte) (t : State) : Prop := (t.flag .n = true ↔ v.toNat ≥ 128) ∧ (t.flag .z = true ↔ v.toNat = 0)

/-- The address of the next instruction in memory: the PC plus the instruction's length in bytes (R30). -/
def nextPc (i : Instr) (s : State) : Word := s.pc + BitVec.ofNat 16 (encode i).length

/-- A T-aware instruction's result `r` (R180): with T = 0 it goes to A and no byte of memory changes; with T = 1 it goes
to the byte at `0x00:X` and A is kept. Beside it at most the flags `fs` change. -/
def TResult (r : Byte) (fs : List Flag) (s t : State) : Prop :=
  (s.flag .t = false → t.a = r ∧ Keeps [.a] fs [] s t) ∧
  (s.flag .t = true → Stored (zeroPage s.x) r s t ∧ Keeps [] fs [zeroPage s.x] s t)

/-- A result `r` is written back to the operand (R210): to its effective address, or to A where it has none. Beside it
at most the flags `fs` change. -/
def WritesBack (o : Operand) (r : Byte) (fs : List Flag) (s t : State) : Prop :=
  (∀ a, o.ea s = some a → Stored a r s t ∧ Keeps [] fs [a] s t) ∧
  (o.ea s = none → t.a = r ∧ Keeps [.a] fs [] s t)

/-- The register `r` becomes `v`, at most the flags `fs` change, and nothing is stored. -/
def LoadsReg (r : Reg) (v : Byte) (fs : List Flag) (s t : State) : Prop := t.reg r = v ∧ Keeps [r] fs [] s t

/-- The flags a comparison of `p` with `m` leaves (R193): C says that `p` is not below `m`, Z that they are equal, N is
the sign bit of the difference modulo 256. -/
def ShowsCompare (p m : Byte) (t : State) : Prop :=
  (t.flag .c = true ↔ m.toNat ≤ p.toNat) ∧ (t.flag .z = true ↔ p.toNat = m.toNat) ∧
  (t.flag .n = true ↔ (p.toNat + 256 - m.toNat) % 256 ≥ 128)

/-- One byte pushed (R27): it is stored at the stack address, S is one less modulo 256, and nothing else changes but the
registers `rs` and the flags `fs`. -/
def PushesByte (v : Byte) (rs : List Reg) (fs : List Flag) (s t : State) : Prop :=
  Stored (s.stackAddr s.sp) v s t ∧ t.sp = s.sp - 1 ∧ Keeps (.s :: rs) fs [s.stackAddr s.sp] s t

/-- The target of a branch by `d` from the next instruction's address `next`: the sum modulo 65536 (R130). -/
def branchTo (next : Word) (d : Byte) : Word := BitVec.ofInt 16 (next.toNat + d.toInt)

/-- The value of the target's two bytes, low byte `lo` (R11). -/
def IsWord (w : Word) (hi lo : Byte) : Prop := w.toNat = 256 * hi.toNat + lo.toNat

/-- What hardware reset of `s` leaves in `u`, where memory was left as `m` (R361, R362): I is 1, the CPU runs, nothing is
pending or enabled, memory and the parameters are kept, and the PC is read from the reset vector. -/
def ResetTo (s : State) (m : Memory) (u : State) : Prop :=
  u.flag .i = true ∧ u.runState = .running ∧ u.decPending = false ∧ u.oldI = none ∧ u.mem = m ∧ u.cfg = s.cfg ∧
  (∀ k, u.pending.getD k false = false) ∧ (∀ k, u.enabled.getD k false = false) ∧
  IsWord u.pc (({ s with mem := m } : State).read .vector (s.cfg.resetVector + 1))
    (({ s with mem := m } : State).read .vector s.cfg.resetVector)

/-- The invariant: memory is in its canonical form, and there is one request bit and one enable bit for each entry of
IRQ_TABLE (R46 (a)). -/
def State.Inv (s : State) : Prop :=
  Memory.wf s.mem ∧ s.pending.length = s.cfg.irqTable.length ∧ s.enabled.length = s.cfg.irqTable.length

/-! ## Tables of the spec -/

/-- The instructions that write each flag (R35 to R42, R44). CLC, SEC and CLD right after a decimal ADC or SBC are apart
(R368). -/
def flagWriters : Flag → List String
  | .n | .z => ["ADC", "SBC", "CMP", "CPX", "CPY", "ASL", "ROL", "ROR", "LSR", "AND", "ORA", "EOR", "COM", "INC", "DEC",
      "INX", "INY", "DEX", "DEY", "LDA", "LDX", "LDY", "PLA", "TAX", "TAY", "TXA", "TYA", "TSX", "TST", "BIT", "PLP",
      "RTI"]
  | .v => ["ADC", "SBC", "BIT", "CLV", "PLP", "RTI"]
  | .t => ["CLT", "SET", "PLP", "RTI"]
  | .b => ["BRK", "PLP", "RTI"]
  | .d => ["CLD", "SED", "PLP", "RTI"]
  | .i => ["CLI", "SEI", "BRK", "PLP", "RTI"]
  | .c => ["ADC", "SBC", "CMP", "CPX", "CPY", "ASL", "ROL", "ROR", "LSR", "CLC", "SEC", "PLP", "RTI"]

/-- The instructions that write each data register (R22, R23, R27, R28, R163). -/
def regWriters : Reg → List String
  | .a => ["LDA", "ADC", "SBC", "AND", "ORA", "EOR", "PLA", "TXA", "TYA", "MUL", "DIV", "ASL", "LSR", "ROL", "ROR", "INC",
      "DEC", "CLB", "SEB"]
  | .x => ["LDX", "TAX", "TSX", "INX", "DEX"]
  | .y => ["LDY", "TAY", "INY", "DEY"]
  | .s => ["TXS", "PHA", "PHP", "PLA", "PLP", "JSR", "RTS", "RTI", "BRK", "MUL", "DIV"]

/-- The 25 bytes that select no instruction (R99). -/
def undefinedOpcodes : List Byte :=
  [0x04, 0x0C, 0x14, 0x1C, 0x34, 0x52, 0x54, 0x5A, 0x5C, 0x72, 0x74, 0x7A, 0x7C, 0x89, 0x92, 0x9C, 0x9E, 0xD2, 0xD4, 0xDA,
   0xDC, 0xF2, 0xF4, 0xFA, 0xFC]

/-- Bytes as one number, the first byte the least significant. -/
def wordOfBytes : List Byte → Nat
  | [] => 0
  | b :: rest => b.toNat + 256 * wordOfBytes rest

/-- One instruction executed `n` times. -/
def repeatInstr : Nat → Instr → State → Result
  | 0, _, s => .next s
  | n + 1, i, s =>
    match exec i s with
    | .next t => repeatInstr n i t
    | .fault r => .fault r
    | .refused r => .refused r

/-- `n` steps one after another. -/
def steps : Nat → State → Result
  | 0, s => .next s
  | n + 1, s =>
    match step s with
    | .next t => steps n t
    | .fault r => .fault r
    | .refused r => .refused r

/-! ## The forms of the instructions that take an operand

For each mnemonic its constructors and the operand each one takes, from 30_encoding.md R98 and the operand lists of
files 41 to 44. `m` is an immediate byte, `z` a zero-page byte, `w` an address. -/

/-- LDA (R151). -/
def ldaForms (m : Byte) (z : Byte) (w : Word) : List (Instr × Operand) :=
  [(.ldaIndx z, .indx z), (.ldaZp z, .zp z), (.ldaImm m, .imm m), (.ldaAbs w, .abs w), (.ldaIndy z, .indy z),
   (.ldaZpx z, .zpx z), (.ldaAbsy w, .absy w), (.ldaAbsx w, .absx w)]

/-- LDX (R153). -/
def ldxForms (m : Byte) (z : Byte) (w : Word) : List (Instr × Operand) :=
  [(.ldxImm m, .imm m), (.ldxZp z, .zp z), (.ldxAbs w, .abs w), (.ldxZpy z, .zpy z), (.ldxAbsy w, .absy w)]

/-- LDY (R154). -/
def ldyForms (m : Byte) (z : Byte) (w : Word) : List (Instr × Operand) :=
  [(.ldyImm m, .imm m), (.ldyZp z, .zp z), (.ldyAbs w, .abs w), (.ldyZpx z, .zpx z), (.ldyAbsx w, .absx w)]

/-- STA (R155). -/
def staForms (_m : Byte) (z : Byte) (w : Word) : List (Instr × Operand) :=
  [(.staIndx z, .indx z), (.staZp z, .zp z), (.staAbs w, .abs w), (.staIndy z, .indy z), (.staZpx z, .zpx z),
   (.staAbsy w, .absy w), (.staAbsx w, .absx w)]

/-- STX (R156). -/
def stxForms (_m : Byte) (z : Byte) (w : Word) : List (Instr × Operand) :=
  [(.stxZp z, .zp z), (.stxAbs w, .abs w), (.stxZpy z, .zpy z)]

/-- STY (R157). -/
def styForms (_m : Byte) (z : Byte) (w : Word) : List (Instr × Operand) :=
  [(.styZp z, .zp z), (.styAbs w, .abs w), (.styZpx z, .zpx z)]

/-- ADC (R183). -/
def adcForms (m : Byte) (z : Byte) (w : Word) : List (Instr × Operand) :=
  [(.adcIndx z, .indx z), (.adcZp z, .zp z), (.adcImm m, .imm m), (.adcAbs w, .abs w), (.adcIndy z, .indy z),
   (.adcZpx z, .zpx z), (.adcAbsy w, .absy w), (.adcAbsx w, .absx w)]

/-- SBC (R184). -/
def sbcForms (m : Byte) (z : Byte) (w : Word) : List (Instr × Operand) :=
  [(.sbcIndx z, .indx z), (.sbcZp z, .zp z), (.sbcImm m, .imm m), (.sbcAbs w, .abs w), (.sbcIndy z, .indy z),
   (.sbcZpx z, .zpx z), (.sbcAbsy w, .absy w), (.sbcAbsx w, .absx w)]

/-- INC (R185). -/
def incForms (_m : Byte) (z : Byte) (w : Word) : List (Instr × Operand) :=
  [(.incAcc, .acc), (.incZp z, .zp z), (.incAbs w, .abs w), (.incZpx z, .zpx z), (.incAbsx w, .absx w)]

/-- DEC (R186). -/
def decForms (_m : Byte) (z : Byte) (w : Word) : List (Instr × Operand) :=
  [(.decAcc, .acc), (.decZp z, .zp z), (.decAbs w, .abs w), (.decZpx z, .zpx z), (.decAbsx w, .absx w)]

/-- CMP (R193). -/
def cmpForms (m : Byte) (z : Byte) (w : Word) : List (Instr × Operand) :=
  [(.cmpIndx z, .indx z), (.cmpZp z, .zp z), (.cmpImm m, .imm m), (.cmpAbs w, .abs w), (.cmpIndy z, .indy z),
   (.cmpZpx z, .zpx z), (.cmpAbsy w, .absy w), (.cmpAbsx w, .absx w)]

/-- CPX (R194). -/
def cpxForms (m : Byte) (z : Byte) (w : Word) : List (Instr × Operand) :=
  [(.cpxImm m, .imm m), (.cpxZp z, .zp z), (.cpxAbs w, .abs w)]

/-- CPY (R195). -/
def cpyForms (m : Byte) (z : Byte) (w : Word) : List (Instr × Operand) :=
  [(.cpyImm m, .imm m), (.cpyZp z, .zp z), (.cpyAbs w, .abs w)]

/-- AND (R211). -/
def andForms (m : Byte) (z : Byte) (w : Word) : List (Instr × Operand) :=
  [(.andIndx z, .indx z), (.andZp z, .zp z), (.andImm m, .imm m), (.andAbs w, .abs w), (.andIndy z, .indy z),
   (.andZpx z, .zpx z), (.andAbsy w, .absy w), (.andAbsx w, .absx w)]

/-- ORA (R212). -/
def oraForms (m : Byte) (z : Byte) (w : Word) : List (Instr × Operand) :=
  [(.oraIndx z, .indx z), (.oraZp z, .zp z), (.oraImm m, .imm m), (.oraAbs w, .abs w), (.oraIndy z, .indy z),
   (.oraZpx z, .zpx z), (.oraAbsy w, .absy w), (.oraAbsx w, .absx w)]

/-- EOR (R213). -/
def eorForms (m : Byte) (z : Byte) (w : Word) : List (Instr × Operand) :=
  [(.eorIndx z, .indx z), (.eorZp z, .zp z), (.eorImm m, .imm m), (.eorAbs w, .abs w), (.eorIndy z, .indy z),
   (.eorZpx z, .zpx z), (.eorAbsy w, .absy w), (.eorAbsx w, .absx w)]

/-- BIT (R215). -/
def bitForms (_m : Byte) (z : Byte) (w : Word) : List (Instr × Operand) :=
  [(.bitZp z, .zp z), (.bitAbs w, .abs w)]

/-- ASL (R217). -/
def aslForms (_m : Byte) (z : Byte) (w : Word) : List (Instr × Operand) :=
  [(.aslZp z, .zp z), (.aslAcc, .acc), (.aslAbs w, .abs w), (.aslZpx z, .zpx z), (.aslAbsx w, .absx w)]

/-- LSR (R218). -/
def lsrForms (_m : Byte) (z : Byte) (w : Word) : List (Instr × Operand) :=
  [(.lsrZp z, .zp z), (.lsrAcc, .acc), (.lsrAbs w, .abs w), (.lsrZpx z, .zpx z), (.lsrAbsx w, .absx w)]

/-- ROL (R219). -/
def rolForms (_m : Byte) (z : Byte) (w : Word) : List (Instr × Operand) :=
  [(.rolZp z, .zp z), (.rolAcc, .acc), (.rolAbs w, .abs w), (.rolZpx z, .zpx z), (.rolAbsx w, .absx w)]

/-- ROR (R220). -/
def rorForms (_m : Byte) (z : Byte) (w : Word) : List (Instr × Operand) :=
  [(.rorZp z, .zp z), (.rorAcc, .acc), (.rorAbs w, .abs w), (.rorZpx z, .zpx z), (.rorAbsx w, .absx w)]

end Sys2Proof.Machine
end

