-- ==== Sys2Proof/WellFormed.lean ====
section
/-! DEFINITION. Which instructions a member of the family has and software may use. The field types already bound every
operand (a byte, a word, a bit number of 0 to 7); what is left is what the spec refuses for the instruction itself. -/

namespace Sys2Proof

/-- MUL and DIV only where the member has them (R100, `HAS_MUL_DIV`). -/
def wfMulDiv (c : Config) : Instr → Bool
  | .mulZpx _ | .divZpx _ => c.hasMulDiv
  | _ => true

/-- WIT and STP only where the member has them (R100, `HAS_STP_WIT`). -/
def wfStpWit (c : Config) : Instr → Bool
  | .wit | .stp => c.hasStpWit
  | _ => true

/-- JMP Indirect Absolute: the pointer's low address byte is not 0xFF (R134). -/
def wfJmpInd : Instr → Bool
  | .jmpInd addr => Machine.lowByte addr != 0xFF#8
  | _ => true

/-- An instruction that software may use on the member with parameters `c`. -/
def wellFormed (c : Config) (i : Instr) : Bool := wfMulDiv c i && wfStpWit c i && wfJmpInd i

end Sys2Proof
end

