-- ==== Sys2Proof/Certificates/Slice0/Obligations.lean ====
section
/-! DEFINITION. The statements for the provers. Each one's docstring names the rules it formalises; "model's choice"
with a log number marks a clause that rests on a decision. -/

open Sys2Proof Sys2Proof.Machine

/-! ## Encoding and fetching -/

/-- The eight machine codes the source shows (R101), and one word of every other family (R97). -/
def Obligations.SourceExamplesDecode : Prop :=
  decode [0x69#8, 0xA5#8] = .ok (.adcImm 0xA5#8, []) ∧
  decode [0x2A#8] = .ok (.rolAcc, []) ∧
  decode [0x65#8, 0x40#8] = .ok (.adcZp 0x40#8, []) ∧
  decode [0x75#8, 0x5E#8] = .ok (.adcZpx 0x5E#8, []) ∧
  decode [0xB6#8, 0x62#8] = .ok (.ldxZpy 0x62#8, []) ∧
  decode [0x6D#8, 0x12#8, 0xAD#8] = .ok (.adcAbs 0xAD12#16, []) ∧
  decode [0x7D#8, 0x12#8, 0xAD#8] = .ok (.adcAbsx 0xAD12#16, []) ∧
  decode [0x79#8, 0x12#8, 0xAD#8] = .ok (.adcAbsy 0xAD12#16, []) ∧
  decode [0xBF#8, 0x44#8] = .ok (.clbZp 5#3 0x44#8, []) ∧
  decode [0xF8#8] = .ok (.sed, []) ∧
  decode [0xB7#8, 0x04#8, 0xF1#8] = .ok (.bbcZp 5#3 0x04#8 0xF1#8, []) ∧
  decode [0x00#8] = .ok (.brk, [])

/-- Decoding the bytes of an instruction gives the instruction and leaves what stands after it (R91 to R98). -/
def Obligations.DecodeEncodeAgree : Prop :=
  ∀ (i : Instr) (rest : List Byte), decode (encode i ++ rest) = .ok (i, rest)

/-- No two byte sequences are the same instruction: what decodes to `i` begins with the bytes of `i` (R92, R97). -/
def Obligations.EncodeDecodeAgree : Prop :=
  ∀ (bytes rest : List Byte) (i : Instr), decode bytes = .ok (i, rest) → bytes = encode i ++ rest

/-- Exactly the 25 bytes of R99 select no instruction, and a running CPU refuses to step on one (R99; the refusal is the
spec's decision D11, log 24). -/
def Obligations.UndefinedOpcodesRefused : Prop :=
  (∀ (op : Byte) (rest : List Byte), decode (op :: rest) = .error (.undefinedOpcode op) ↔ op ∈ undefinedOpcodes) ∧
  ∀ s : State, s.runState = .running → s.acceptedRequest = none → s.read .fetch s.pc ∈ undefinedOpcodes →
    step s = .refused (.undefinedOpcode (s.read .fetch s.pc))

/-- A running CPU that enters no interrupt executes the instruction the bytes at its PC decode to (R14, R92). The model's
counter of free values then moves on (log 11). -/
def Obligations.StepRunsDecodedInstruction : Prop :=
  ∀ (s : State) (i : Instr) (rest : List Byte),
    s.runState = .running → s.acceptedRequest = none → decode s.fetchBytes = .ok (i, rest) →
    step s = tickResult (exec i s)

/-- An instruction loaded at the PC is the one the next step executes (R14, R76; the load is the model's, log 4). -/
def Obligations.LoadedInstructionRuns : Prop :=
  ∀ (s : State) (i : Instr),
    s.runState = .running → s.acceptedRequest = none →
    (∀ n < 3, s.kindAt (s.pc + BitVec.ofNat 16 n) = .ram ∨ s.kindAt (s.pc + BitVec.ofNat 16 n) = .rom) →
    step (s.withFetchWord (8 * (encode i).length) (wordOfBytes (encode i))) =
      tickResult (exec i (s.withFetchWord (8 * (encode i).length) (wordOfBytes (encode i))))

/-! ## The whole machine -/

/-- The invariant is kept by every step: memory stays in its canonical form and the request and enable bits stay one for
each entry of IRQ_TABLE (R46 (a), R60). -/
def Obligations.StepKeepsInvariant : Prop := ∀ s t : State, s.Inv → step s = .next t → t.Inv

/-- The invariant holds after reset. -/
def Obligations.ResetMeetsInvariant : Prop := State.reset.Inv

/-- What reset leaves where the spec gives a value (R47): I is 1, the CPU runs, nothing is pending or enabled,
`dec_pending` is false. -/
def Obligations.ResetState : Prop :=
  State.reset.flag .i = true ∧ State.reset.runState = .running ∧ State.reset.decPending = false ∧
  (∀ k, State.reset.pending.getD k false = false) ∧ ∀ k, State.reset.enabled.getD k false = false

/-- No step changes a parameter or an enable bit, none raises a request, and each one moves the counter of free values on
(R7, R14 (a), R322). That STACK_PAGE and the other parameters never change is the spec's decision D2 and the model's
choice (log 1, log 12); that no step changes an enable bit, which R322 lets software set through a device register, is
the model's choice (log 9, log 25): a store to a device cell changes no State, the device's reaction is a move of the
environment. The counter is the model's (log 11). -/
def Obligations.StepKeepsParametersAndEnables : Prop :=
  ∀ s t : State, step s = .next t →
    t.cfg = s.cfg ∧ t.enabled = s.enabled ∧ t.draws = s.draws + 1 ∧
    ∀ k, t.pending.getD k false = true → s.pending.getD k false = true

/-- Only CLI, PLP and RTI can take I from 1 to 0 in a step (R323, R330). -/
def Obligations.OnlyCliPlpRtiClearI : Prop :=
  ∀ s t : State, step s = .next t → s.flag .i = true → t.flag .i = false →
    ∃ i, s.fetchInstr = some i ∧ i.mnemonic ∈ ["CLI", "PLP", "RTI"]

/-- An instruction changes only the flags the table of R44 gives it (R35 to R44); CLC, SEC and CLD right behind a decimal
ADC or SBC may change C and D (R368, log 19). -/
def Obligations.FlagsWrittenAsTabulated : Prop :=
  ∀ (i : Instr) (s t : State) (f : Flag), exec i s = .next t → i.mnemonic ∉ flagWriters f →
    (s.decPending = true ∧ i.mnemonic ∈ ["CLC", "SEC", "CLD"] ∧ (f = .c ∨ f = .d)) ∨ t.flag f = s.flag f

/-- An instruction changes only the data registers of the lists of R22, R23, R27, R28 and R163; the six T-aware
instructions that write A leave it alone when T is 1 (R22, R39; the list of T-aware instructions is D19, log 20). -/
def Obligations.RegistersWrittenAsListed : Prop :=
  ∀ (i : Instr) (s t : State), exec i s = .next t →
    (∀ r, i.mnemonic ∉ regWriters r → t.reg r = s.reg r) ∧
    (s.flag .t = true → i.mnemonic ∈ ["LDA", "ADC", "SBC", "AND", "ORA", "EOR"] → t.a = s.a)

/-- How the run state changes in a step (R46 (b), R301, R302, R326): only WIT and STP leave `running`, and only an
interrupt entry returns to it. -/
def Obligations.RunStateChanges : Prop :=
  ∀ s t : State, step s = .next t →
    (s.runState = .running → t.runState ≠ .running →
      (s.fetchInstr = some .wit ∧ t.runState = .waiting) ∨ (s.fetchInstr = some .stp ∧ t.runState = .stopped)) ∧
    (s.runState ≠ .running → t.runState = s.runState ∨
      (t.runState = .running ∧ ∃ k, s.acceptedRequest = some k))

/-- Every instruction completes, but for the cases the spec refuses (R100, R134, R192): one the member lacks, JMP with
its pointer at a page end, DIV with its dividend at the end of page 0. -/
def Obligations.CompletesExactlyWhenWellFormed : Prop :=
  ∀ (i : Instr) (s : State),
    (∃ t, exec i s = .next t) ↔ wellFormed s.cfg i = true ∧ ∀ zz, i = .divZpx zz → zz + s.x ≠ 0xFF#8

/-- `dec_pending` after an instruction says whether it was an ADC or SBC with D = 1 (R46 (d), R150); `oldI`, the model's
own field, holds the old I right after CLI, SEI, PLP and RTI and nothing otherwise (R324, log 15); the model's counter
of free values is the step's, not the instruction's (log 11). -/
def Obligations.HiddenStateAfterInstruction : Prop :=
  ∀ (i : Instr) (s t : State), exec i s = .next t →
    (t.decPending = true ↔ i.mnemonic ∈ ["ADC", "SBC"] ∧ s.flag .d = true) ∧
    (i.mnemonic ∈ ["CLI", "SEI", "PLP", "RTI"] → t.oldI = some (s.flag .i)) ∧
    (i.mnemonic ∉ ["CLI", "SEI", "PLP", "RTI"] → t.oldI = none) ∧ t.draws = s.draws

/-! ## Memory, operands, the stack -/

/-- A read after a write (R71, R73; unmapped and ROM writes: D16, log 7, log 8): a RAM cell gives the byte written, any
other cell and any other address what they gave before. -/
def Obligations.MemoryReadAfterWrite : Prop :=
  ∀ (s : State) (a : Word) (v : Byte),
    Stored a v s (s.write a v) ∧ KeepsMem [a] s (s.write a v) ∧ KeepsRegs [] s (s.write a v) ∧
    KeepsFlags [] s (s.write a v) ∧ KeepsSystem s (s.write a v)

/-- The effective addresses of the data modes (R123 to R128, R131, R132, R141) as sums of numbers, and the operand value
(R150). The wraps of the pointer and of the 16-bit sum are D5 and D23 (log 13). -/
def Obligations.EffectiveAddresses : Prop :=
  ∀ (s : State) (v z : Byte) (w : Word),
    (Operand.imm v).value s = v ∧ Operand.acc.value s = s.a ∧
    (Operand.imm v).ea s = none ∧ Operand.acc.ea s = none ∧
    ((Operand.zp z).ea s).map BitVec.toNat = some z.toNat ∧
    ((Operand.zpx z).ea s).map BitVec.toNat = some ((z.toNat + s.x.toNat) % 256) ∧
    ((Operand.zpy z).ea s).map BitVec.toNat = some ((z.toNat + s.y.toNat) % 256) ∧
    (Operand.abs w).ea s = some w ∧
    ((Operand.absx w).ea s).map BitVec.toNat = some ((w.toNat + s.x.toNat) % 65536) ∧
    ((Operand.absy w).ea s).map BitVec.toNat = some ((w.toNat + s.y.toNat) % 65536) ∧
    (∃ p, (Operand.indx z).ea s = some p ∧
      IsWord p (s.read .pointer (BitVec.ofNat 16 ((z.toNat + s.x.toNat + 1) % 256)))
        (s.read .pointer (BitVec.ofNat 16 ((z.toNat + s.x.toNat) % 256)))) ∧
    (∃ p q, (Operand.indy z).ea s = some q ∧ q.toNat = (p.toNat + s.y.toNat) % 65536 ∧
      IsWord p (s.read .pointer (BitVec.ofNat 16 ((z.toNat + 1) % 256)))
        (s.read .pointer (BitVec.ofNat 16 z.toNat))) ∧
    ∀ (o : Operand) (a : Word), o.ea s = some a → o.value s = s.read .operand a

/-- Push and pull of one byte (R24, R27, R28): a push stores at `STACK_PAGE:S` and then decrements S modulo 256; a pull
right after it gives the byte back and restores S, where the stack cell is RAM. The wrap is D3 (log 13). -/
def Obligations.PushAndPull : Prop :=
  ∀ (s : State) (v : Byte),
    PushesByte v [] [] s (s.push8 v) ∧ (s.push8 v).sp.toNat = (s.sp.toNat + 255) % 256 ∧
    (s.stackAddr s.sp).toNat = (if s.cfg.stackPageBit then 256 else 0) + s.sp.toNat ∧
    (s.push8 v).popped.sp = s.sp ∧
    (s.kindAt (s.stackAddr s.sp) = .ram → (s.push8 v).pulled = v)

/-! ## Data transfer -/

/-- LDA (R151; that it obeys T is D19, log 20). -/
def Obligations.LdaLoads : Prop :=
  ∀ (s : State) (m z : Byte) (w : Word), ∀ p ∈ ldaForms m z w,
    ∃ t, exec p.1 s = .next t ∧ TResult (p.2.value s) [.n, .z] s t ∧ ShowsNZ (p.2.value s) t ∧
      EndsAt (nextPc p.1 s) t

/-- LDX and LDY (R153, R154). -/
def Obligations.LdxLdyLoad : Prop :=
  ∀ (s : State) (m z : Byte) (w : Word),
    (∀ p ∈ ldxForms m z w, ∃ t, exec p.1 s = .next t ∧ LoadsReg .x (p.2.value s) [.n, .z] s t ∧
      ShowsNZ (p.2.value s) t ∧ EndsAt (nextPc p.1 s) t) ∧
    (∀ p ∈ ldyForms m z w, ∃ t, exec p.1 s = .next t ∧ LoadsReg .y (p.2.value s) [.n, .z] s t ∧
      ShowsNZ (p.2.value s) t ∧ EndsAt (nextPc p.1 s) t)

/-- STA, STX and STY (R155 to R157): the register's byte goes to the effective address, and nothing else changes. -/
def Obligations.StoresStore : Prop :=
  ∀ (s : State) (m z : Byte) (w : Word),
    (∀ p ∈ staForms m z w, ∃ a t, p.2.ea s = some a ∧ exec p.1 s = .next t ∧ Stored a s.a s t ∧ Keeps [] [] [a] s t ∧
      EndsAt (nextPc p.1 s) t) ∧
    (∀ p ∈ stxForms m z w, ∃ a t, p.2.ea s = some a ∧ exec p.1 s = .next t ∧ Stored a s.x s t ∧ Keeps [] [] [a] s t ∧
      EndsAt (nextPc p.1 s) t) ∧
    (∀ p ∈ styForms m z w, ∃ a t, p.2.ea s = some a ∧ exec p.1 s = .next t ∧ Stored a s.y s t ∧ Keeps [] [] [a] s t ∧
      EndsAt (nextPc p.1 s) t)

/-- LDM (R152): `3C imm zp` stores the immediate byte at the zero-page address; nothing else changes. -/
def Obligations.LdmStores : Prop :=
  ∀ (s : State) (imm zz : Byte),
    encode (.ldm imm zz) = [0x3C#8, imm, zz] ∧
    ∃ t, exec (.ldm imm zz) s = .next t ∧ Stored (zeroPage zz) imm s t ∧ Keeps [] [] [zeroPage zz] s t ∧
      EndsAt (s.pc + 3) t

/-- TAX, TXA, TAY, TYA (R158 to R161), and TSX, TXS (R162, R163). -/
def Obligations.TransfersTransfer : Prop :=
  ∀ s : State,
    (encode .tax = [0xAA#8] ∧ ∃ t, exec .tax s = .next t ∧ LoadsReg .x s.a [.n, .z] s t ∧ ShowsNZ s.a t ∧
      EndsAt (s.pc + 1) t) ∧
    (encode .txa = [0x8A#8] ∧ ∃ t, exec .txa s = .next t ∧ LoadsReg .a s.x [.n, .z] s t ∧ ShowsNZ s.x t ∧
      EndsAt (s.pc + 1) t) ∧
    (encode .tay = [0xA8#8] ∧ ∃ t, exec .tay s = .next t ∧ LoadsReg .y s.a [.n, .z] s t ∧ ShowsNZ s.a t ∧
      EndsAt (s.pc + 1) t) ∧
    (encode .tya = [0x98#8] ∧ ∃ t, exec .tya s = .next t ∧ LoadsReg .a s.y [.n, .z] s t ∧ ShowsNZ s.y t ∧
      EndsAt (s.pc + 1) t) ∧
    (encode .tsx = [0xBA#8] ∧ ∃ t, exec .tsx s = .next t ∧ LoadsReg .x s.sp [.n, .z] s t ∧ ShowsNZ s.sp t ∧
      EndsAt (s.pc + 1) t) ∧
    (encode .txs = [0x9A#8] ∧ ∃ t, exec .txs s = .next t ∧ LoadsReg .s s.x [] s t ∧ EndsAt (s.pc + 1) t)

/-- PHA and PLA (R164, R166). -/
def Obligations.PhaPushesPlaPulls : Prop :=
  ∀ s : State,
    (encode .pha = [0x48#8] ∧ ∃ t, exec .pha s = .next t ∧ PushesByte s.a [] [] s t ∧ EndsAt (s.pc + 1) t) ∧
    (encode .pla = [0x68#8] ∧ ∃ t, exec .pla s = .next t ∧ t.sp = s.sp + 1 ∧
      t.a = s.read .stack (s.stackAddr (s.sp + 1)) ∧ ShowsNZ t.a t ∧ Keeps [.a, .s] [.n, .z] [] s t ∧
      EndsAt (s.pc + 1) t)

/-- PHP and PLP (R165, R167): all eight bits of PS, B among them (D10, log 14); after PLP the old I is remembered for one
boundary (D17, log 15). -/
def Obligations.PhpPushesPlpPulls : Prop :=
  ∀ s : State,
    (encode .php = [0x08#8] ∧ ∃ t, exec .php s = .next t ∧ PushesByte s.ps [] [] s t ∧ EndsAt (s.pc + 1) t) ∧
    (encode .plp = [0x28#8] ∧ ∃ t, exec .plp s = .next t ∧ t.sp = s.sp + 1 ∧
      (∀ f : Flag, t.flag f = bitOf (s.read .stack (s.stackAddr (s.sp + 1))) f.index) ∧
      KeepsRegs [.s] s t ∧ KeepsMem [] s t ∧ KeepsSystem s t ∧ EndsAt (s.pc + 1) t ∧ t.oldI = some (s.flag .i))

/-! ## Arithmetic -/

/-- `add_bin` and `sub_bin` (R181): the result, the four flags, and the bit formula for V beside the signed one. -/
def Obligations.BinaryAddSubFlags : Prop :=
  ∀ (p m : Byte) (c : Bool),
    (let r := addBin p m c
     r.result.toNat = (p.toNat + m.toNat + c.toNat) % 256 ∧
     (r.c = true ↔ p.toNat + m.toNat + c.toNat > 255) ∧
     (r.v = true ↔ p.toInt + m.toInt + c.toNat > 127 ∨ p.toInt + m.toInt + c.toNat < -128) ∧
     r.v = bitOf ((~~~(p ^^^ m)) &&& (p ^^^ r.result)) 7 ∧ r.n = bitOf r.result 7 ∧ (r.z = true ↔ r.result = 0#8)) ∧
    (let r := subBin p m c
     r.result.toNat = (p.toNat + 256 - m.toNat - (1 - c.toNat)) % 256 ∧
     (r.c = true ↔ m.toNat + (1 - c.toNat) ≤ p.toNat) ∧
     (r.v = true ↔ p.toInt - m.toInt - (1 - c.toNat) > 127 ∨ p.toInt - m.toInt - (1 - c.toNat) < -128) ∧
     r.v = bitOf ((p ^^^ m) &&& (p ^^^ r.result)) 7 ∧ r.n = bitOf r.result 7 ∧ (r.z = true ↔ r.result = 0#8))

/-- ADC with D = 0 (R180, R181, R183; the list of T-aware instructions is D19, log 20). -/
def Obligations.AdcBinary : Prop :=
  ∀ (s : State) (m z : Byte) (w : Word), s.flag .d = false → ∀ p ∈ adcForms m z w,
    ∃ t r, exec p.1 s = .next t ∧ TResult r [.n, .v, .z, .c] s t ∧ ShowsNZ r t ∧ EndsAt (nextPc p.1 s) t ∧
      (let P := s.firstOperand
       let M := p.2.value s
       let C := (s.flag .c).toNat
       r.toNat = (P.toNat + M.toNat + C) % 256 ∧ (t.flag .c = true ↔ P.toNat + M.toNat + C > 255) ∧
       (t.flag .v = true ↔ P.toInt + M.toInt + C > 127 ∨ P.toInt + M.toInt + C < -128))

/-- SBC with D = 0 (R180, R181, R184; the list of T-aware instructions is D19, log 20). -/
def Obligations.SbcBinary : Prop :=
  ∀ (s : State) (m z : Byte) (w : Word), s.flag .d = false → ∀ p ∈ sbcForms m z w,
    ∃ t r, exec p.1 s = .next t ∧ TResult r [.n, .v, .z, .c] s t ∧ ShowsNZ r t ∧ EndsAt (nextPc p.1 s) t ∧
      (let P := s.firstOperand
       let M := p.2.value s
       let borrow := 1 - (s.flag .c).toNat
       r.toNat = (P.toNat + 256 - M.toNat - borrow) % 256 ∧ (t.flag .c = true ↔ M.toNat + borrow ≤ P.toNat) ∧
       (t.flag .v = true ↔ P.toInt - M.toInt - borrow > 127 ∨ P.toInt - M.toInt - borrow < -128))

/-- ADC with D = 1 (R182, R183): it completes on all operands, and on two decimal numerals the result and C are those of
the decimal sum; N, V and Z are free, and so are the result and C otherwise (D14, log 19). -/
def Obligations.AdcDecimal : Prop :=
  ∀ (s : State) (m z : Byte) (w : Word), s.flag .d = true → ∀ p ∈ adcForms m z w,
    ∃ t r, exec p.1 s = .next t ∧ TResult r [.n, .v, .z, .c] s t ∧ t.pc = nextPc p.1 s ∧ t.decPending = true ∧
      (isDecimal s.firstOperand = true → isDecimal (p.2.value s) = true →
        let S := decValue s.firstOperand + decValue (p.2.value s) + (s.flag .c).toNat
        isDecimal r = true ∧ decValue r = S % 100 ∧ (t.flag .c = true ↔ S > 99))

/-- SBC with D = 1 (R182, R184), in the same way; C says that there was no borrow (D14, log 19). -/
def Obligations.SbcDecimal : Prop :=
  ∀ (s : State) (m z : Byte) (w : Word), s.flag .d = true → ∀ p ∈ sbcForms m z w,
    ∃ t r, exec p.1 s = .next t ∧ TResult r [.n, .v, .z, .c] s t ∧ t.pc = nextPc p.1 s ∧ t.decPending = true ∧
      (isDecimal s.firstOperand = true → isDecimal (p.2.value s) = true →
        let P := decValue s.firstOperand
        let M := decValue (p.2.value s) + (1 - (s.flag .c).toNat)
        isDecimal r = true ∧ decValue r = (P + 100 - M) % 100 ∧ (t.flag .c = true ↔ M ≤ P))

/-- INC and DEC (R185, R186): the operand plus or minus one modulo 256 is written back; N and Z. -/
def Obligations.IncDecWriteBack : Prop :=
  ∀ (s : State) (m z : Byte) (w : Word),
    (∀ p ∈ incForms m z w, ∃ t r, exec p.1 s = .next t ∧ r.toNat = ((p.2.value s).toNat + 1) % 256 ∧
      WritesBack p.2 r [.n, .z] s t ∧ ShowsNZ r t ∧ EndsAt (nextPc p.1 s) t) ∧
    (∀ p ∈ decForms m z w, ∃ t r, exec p.1 s = .next t ∧ r.toNat = ((p.2.value s).toNat + 255) % 256 ∧
      WritesBack p.2 r [.n, .z] s t ∧ ShowsNZ r t ∧ EndsAt (nextPc p.1 s) t)

/-- INX, DEX, INY, DEY (R187 to R190). -/
def Obligations.IndexIncDec : Prop :=
  ∀ s : State,
    (encode .inx = [0xE8#8] ∧ ∃ t, exec .inx s = .next t ∧ LoadsReg .x (s.x + 1) [.n, .z] s t ∧ ShowsNZ t.x t ∧
      EndsAt (s.pc + 1) t) ∧
    (encode .dex = [0xCA#8] ∧ ∃ t, exec .dex s = .next t ∧ LoadsReg .x (s.x - 1) [.n, .z] s t ∧ ShowsNZ t.x t ∧
      EndsAt (s.pc + 1) t) ∧
    (encode .iny = [0xC8#8] ∧ ∃ t, exec .iny s = .next t ∧ LoadsReg .y (s.y + 1) [.n, .z] s t ∧ ShowsNZ t.y t ∧
      EndsAt (s.pc + 1) t) ∧
    (encode .dey = [0x88#8] ∧ ∃ t, exec .dey s = .next t ∧ LoadsReg .y (s.y - 1) [.n, .z] s t ∧ ShowsNZ t.y t ∧
      EndsAt (s.pc + 1) t)

/-- MUL (R191): where the member has it, the product of A and the byte at `zz + X` in page 0, low byte in A, high byte
pushed; otherwise the refusal of R191. -/
def Obligations.MulMultiplies : Prop :=
  ∀ (s : State) (zz : Byte),
    encode (.mulZpx zz) = [0x62#8, zz] ∧
    (s.cfg.hasMulDiv = false → exec (.mulZpx zz) s = .refused (.undefinedOpcode 0x62#8)) ∧
    (s.cfg.hasMulDiv = true → ∃ t hi, exec (.mulZpx zz) s = .next t ∧
      s.a.toNat * (s.read .operand (zeroPage (zz + s.x))).toNat = 256 * hi.toNat + t.a.toNat ∧
      PushesByte hi [.a] [] s t ∧ EndsAt (s.pc + 2) t)

/-- DIV (R192): where the member has it and the dividend does not wrap, the quotient in A and the complemented remainder
pushed; when the divisor is 0 or the quotient above 255 both are free (D24, log 21). Otherwise the refusals of R192. -/
def Obligations.DivDivides : Prop :=
  ∀ (s : State) (zz : Byte),
    (s.cfg.hasMulDiv = false → exec (.divZpx zz) s = .refused (.undefinedOpcode 0xE2#8)) ∧
    (s.cfg.hasMulDiv = true → zz + s.x = 0xFF#8 → exec (.divZpx zz) s = .refused .divOperandWraps) ∧
    (s.cfg.hasMulDiv = true → zz + s.x ≠ 0xFF#8 → ∃ t v, exec (.divZpx zz) s = .next t ∧
      PushesByte v [.a] [] s t ∧ EndsAt (s.pc + 2) t ∧
      (let n := 256 * (s.read .operand (zeroPage (zz + s.x + 1))).toNat + (s.read .operand (zeroPage (zz + s.x))).toNat
       s.a.toNat ≠ 0 → n / s.a.toNat ≤ 255 →
         n = t.a.toNat * s.a.toNat + (255 - v.toNat) ∧ 255 - v.toNat < s.a.toNat))

/-- CMP, CPX and CPY (R193 to R195): C, Z and N from the comparison, nothing stored; CMP compares M(X) when T is 1 (D19,
log 20), CPX and CPY do not look at T. -/
def Obligations.ComparesCompare : Prop :=
  ∀ (s : State) (m z : Byte) (w : Word),
    (∀ p ∈ cmpForms m z w, ∃ t, exec p.1 s = .next t ∧ EndsAt (nextPc p.1 s) t ∧ Keeps [] [.c, .z, .n] [] s t ∧
      ShowsCompare (if s.flag .t then s.read .target (zeroPage s.x) else s.a) (p.2.value s) t) ∧
    (∀ p ∈ cpxForms m z w, ∃ t, exec p.1 s = .next t ∧ EndsAt (nextPc p.1 s) t ∧ Keeps [] [.c, .z, .n] [] s t ∧
      ShowsCompare s.x (p.2.value s) t) ∧
    (∀ p ∈ cpyForms m z w, ∃ t, exec p.1 s = .next t ∧ EndsAt (nextPc p.1 s) t ∧ Keeps [] [.c, .z, .n] [] s t ∧
      ShowsCompare s.y (p.2.value s) t)

/-! ## Logic, test, shift, bits -/

/-- AND, ORA and EOR (R211 to R213; that they obey T is D19, log 20), bit by bit. -/
def Obligations.LogicOperates : Prop :=
  ∀ (s : State) (m z : Byte) (w : Word),
    (∀ p ∈ andForms m z w, ∃ t r, exec p.1 s = .next t ∧ TResult r [.n, .z] s t ∧ ShowsNZ r t ∧
      EndsAt (nextPc p.1 s) t ∧ ∀ j < 8, bitOf r j = (bitOf s.firstOperand j && bitOf (p.2.value s) j)) ∧
    (∀ p ∈ oraForms m z w, ∃ t r, exec p.1 s = .next t ∧ TResult r [.n, .z] s t ∧ ShowsNZ r t ∧
      EndsAt (nextPc p.1 s) t ∧ ∀ j < 8, bitOf r j = (bitOf s.firstOperand j || bitOf (p.2.value s) j)) ∧
    (∀ p ∈ eorForms m z w, ∃ t r, exec p.1 s = .next t ∧ TResult r [.n, .z] s t ∧ ShowsNZ r t ∧
      EndsAt (nextPc p.1 s) t ∧ ∀ j < 8, bitOf r j = (bitOf s.firstOperand j != bitOf (p.2.value s) j))

/-- COM, TST and RRF (R214, R216, R221); RRF twice is the byte as it was. -/
def Obligations.ComTstRrf : Prop :=
  ∀ (s : State) (zz : Byte),
    (encode (.comZp zz) = [0x44#8, zz] ∧ ∃ t r, exec (.comZp zz) s = .next t ∧
      r.toNat = 255 - (s.read .operand (zeroPage zz)).toNat ∧ Stored (zeroPage zz) r s t ∧ ShowsNZ r t ∧
      Keeps [] [.n, .z] [zeroPage zz] s t ∧ EndsAt (s.pc + 2) t) ∧
    (encode (.tstZp zz) = [0x64#8, zz] ∧ ∃ t, exec (.tstZp zz) s = .next t ∧
      ShowsNZ (s.read .operand (zeroPage zz)) t ∧ Keeps [] [.n, .z] [] s t ∧ EndsAt (s.pc + 2) t) ∧
    (encode (.rrfZp zz) = [0x82#8, zz] ∧ ∃ t r, exec (.rrfZp zz) s = .next t ∧
      r.toNat = 16 * ((s.read .operand (zeroPage zz)).toNat % 16) + (s.read .operand (zeroPage zz)).toNat / 16 ∧
      Stored (zeroPage zz) r s t ∧ Keeps [] [] [zeroPage zz] s t ∧ EndsAt (s.pc + 2) t ∧
      swapNibbles r = s.read .operand (zeroPage zz))

/-- BIT (R215): N and V are bits 7 and 6 of the memory byte, Z says that A and it have no 1 in common; nothing is
stored. -/
def Obligations.BitTestsMemory : Prop :=
  ∀ (s : State) (z : Byte) (w : Word),
    encode (.bitZp z) = [0x24#8, z] ∧ encode (.bitAbs w) = [0x2C#8, lowByte w, highByte w] ∧
    ∀ p ∈ bitForms 0 z w, ∃ t, exec p.1 s = .next t ∧ Keeps [] [.n, .v, .z] [] s t ∧ EndsAt (nextPc p.1 s) t ∧
      (t.flag .n = true ↔ (p.2.value s).toNat ≥ 128) ∧ (t.flag .v = true ↔ (p.2.value s).toNat / 64 % 2 = 1) ∧
      (t.flag .z = true ↔ ∀ j < 8, ¬(bitOf s.a j = true ∧ bitOf (p.2.value s) j = true))

/-- ASL and LSR (R217, R218): doubling and halving, the bit that leaves the byte in C; the result is written back. -/
def Obligations.ShiftsShift : Prop :=
  ∀ (s : State) (m z : Byte) (w : Word),
    (∀ p ∈ aslForms m z w, ∃ t r, exec p.1 s = .next t ∧ WritesBack p.2 r [.n, .z, .c] s t ∧ ShowsNZ r t ∧
      EndsAt (nextPc p.1 s) t ∧ 2 * (p.2.value s).toNat = 256 * (t.flag .c).toNat + r.toNat) ∧
    (∀ p ∈ lsrForms m z w, ∃ t r, exec p.1 s = .next t ∧ WritesBack p.2 r [.n, .z, .c] s t ∧ ShowsNZ r t ∧
      EndsAt (nextPc p.1 s) t ∧ t.flag .n = false ∧ (p.2.value s).toNat = 2 * r.toNat + (t.flag .c).toNat)

/-- ROL and ROR (R219, R220): a rotation of nine bits, the operand and C; the result is written back. -/
def Obligations.RotatesRotate : Prop :=
  ∀ (s : State) (m z : Byte) (w : Word),
    (∀ p ∈ rolForms m z w, ∃ t r, exec p.1 s = .next t ∧ WritesBack p.2 r [.n, .z, .c] s t ∧ ShowsNZ r t ∧
      EndsAt (nextPc p.1 s) t ∧
      2 * (p.2.value s).toNat + (s.flag .c).toNat = 256 * (t.flag .c).toNat + r.toNat) ∧
    (∀ p ∈ rorForms m z w, ∃ t r, exec p.1 s = .next t ∧ WritesBack p.2 r [.n, .z, .c] s t ∧ ShowsNZ r t ∧
      EndsAt (nextPc p.1 s) t ∧
      256 * (s.flag .c).toNat + (p.2.value s).toNat = 2 * r.toNat + (t.flag .c).toNat)

/-- Nine ROLs restore the operand and the carry (R219), where the operand is A or a RAM cell. -/
def Obligations.NineRotatesRestore : Prop :=
  ∀ (s : State) (m z : Byte) (w : Word), ∀ p ∈ rolForms m z w, (∀ a, p.2.ea s = some a → s.kindAt a = .ram) →
    ∃ t, repeatInstr 9 p.1 s = .next t ∧ p.2.value t = p.2.value s ∧ t.flag .c = s.flag .c

/-- CLB and SEB (R241, R242): one bit of A or of a zero-page byte is written, the other seven are written back as read;
no flag changes. -/
def Obligations.ClbSebWriteOneBit : Prop :=
  ∀ (s : State) (b : BitNo) (zz : Byte) (v : Bool),
    (encode (.clbAcc b) = [0x1B#8 + 0x20#8 * b.setWidth 8] ∧
      encode (.clbZp b zz) = [0x1F#8 + 0x20#8 * b.setWidth 8, zz] ∧
      encode (.sebAcc b) = [0x0B#8 + 0x20#8 * b.setWidth 8] ∧
      encode (.sebZp b zz) = [0x0F#8 + 0x20#8 * b.setWidth 8, zz]) ∧
    ∀ p ∈ (if v then [(Instr.sebAcc b, Operand.acc), (.sebZp b zz, .zp zz)]
      else [(.clbAcc b, .acc), (.clbZp b zz, .zp zz)]),
      ∃ t r, exec p.1 s = .next t ∧ WritesBack p.2 r [] s t ∧ EndsAt (nextPc p.1 s) t ∧
        ∀ j < 8, bitOf r j = if j = b.toNat then v else bitOf (p.2.value s) j

/-! ## Flag setting -/

/-- SED, CLT, SET, CLV (R250, R254, R257 to R259) and CLI, SEI (R255, R256) write their one flag; after the last two the
old I is remembered for one boundary (D17, log 15). -/
def Obligations.FlagSettersSetOneFlag : Prop :=
  ∀ s : State,
    (∀ p ∈ [(Instr.sed, Flag.d, true), (.clt, .t, false), (.set, .t, true), (.clv, .v, false)],
      ∃ t, exec p.1 s = .next t ∧ t.flag p.2.1 = p.2.2 ∧ Keeps [] [p.2.1] [] s t ∧ EndsAt (s.pc + 1) t) ∧
    (∀ p ∈ [(Instr.cli, false), (.sei, true)],
      ∃ t, exec p.1 s = .next t ∧ t.flag .i = p.2 ∧ Keeps [] [.i] [] s t ∧ EndsAt (s.pc + 1) t ∧
        t.oldI = some (s.flag .i))

/-- CLC, SEC and CLD (R251 to R253): each writes its one flag, but right behind a decimal ADC or SBC it leaves C and D
free and writes nothing else (R368, D14, log 19). -/
def Obligations.CarryDecimalSetters : Prop :=
  ∀ s : State, ∀ p ∈ [(Instr.clc, Flag.c, false), (.sec, .c, true), (.cld, .d, false)],
    (s.decPending = false → ∃ t, exec p.1 s = .next t ∧ t.flag p.2.1 = p.2.2 ∧ Keeps [] [p.2.1] [] s t ∧
      EndsAt (s.pc + 1) t) ∧
    (s.decPending = true → ∃ t, exec p.1 s = .next t ∧ Keeps [] [.c, .d] [] s t ∧ EndsAt (s.pc + 1) t)

/-! ## Jumps, branches, returns -/

/-- JMP (R271, R133 to R135): absolute, through a pointer anywhere, through a zero-page pointer; the pointer at a page
end is refused (D23, log 22). -/
def Obligations.JmpJumps : Prop :=
  ∀ (s : State) (w : Word) (zz : Byte),
    (∃ t, exec (.jmpAbs w) s = .next t ∧ EndsAt w t ∧ Keeps [] [] [] s t) ∧
    (w.toNat % 256 = 255 → exec (.jmpInd w) s = .refused .jmpIndirectPageEnd) ∧
    (w.toNat % 256 ≠ 255 → ∃ t q, exec (.jmpInd w) s = .next t ∧ EndsAt q t ∧ Keeps [] [] [] s t ∧
      IsWord q (s.read .pointer (w + 1)) (s.read .pointer w)) ∧
    (∃ t q, exec (.jmpZpind zz) s = .next t ∧ EndsAt q t ∧ Keeps [] [] [] s t ∧
      IsWord q (s.read .pointer (zeroPage (zz + 1))) (s.read .pointer (zeroPage zz)))

/-- BRA and the eight conditional branches (R272, R276 to R283): taken or not, and nothing but the PC changes. The target
counts from the next instruction (D29, log 29). -/
def Obligations.BranchesOnFlags : Prop :=
  ∀ (s : State) (d : Byte),
    ∀ p ∈ [(Instr.bra d, true), (.bcc d, s.flag .c == false), (.bcs d, s.flag .c == true),
        (.bne d, s.flag .z == false), (.beq d, s.flag .z == true), (.bpl d, s.flag .n == false),
        (.bmi d, s.flag .n == true), (.bvc d, s.flag .v == false), (.bvs d, s.flag .v == true)],
      ∃ t, exec p.1 s = .next t ∧ Keeps [] [] [] s t ∧
        EndsAt (if p.2 then branchTo (s.pc + 2) d else s.pc + 2) t

/-- BBC and BBS (R274, R275): the branch is taken when the bit is 0 or 1; the tested byte is not modified. The target
counts from the next instruction (D29, log 29). -/
def Obligations.BranchesOnBits : Prop :=
  ∀ (s : State) (b : BitNo) (zz d : Byte) (v : Bool),
    ∀ p ∈ (if v then [(Instr.bbsAcc b d, s.a), (.bbsZp b zz d, s.read .operand (zeroPage zz))]
      else [(.bbcAcc b d, s.a), (.bbcZp b zz d, s.read .operand (zeroPage zz))]),
      ∃ t, exec p.1 s = .next t ∧ Keeps [] [] [] s t ∧
        EndsAt (if bitOf p.2 b.toNat = v then branchTo (nextPc p.1 s) d else nextPc p.1 s) t

/-- JSR (R273, R65): the address of its own last byte is pushed, high byte first, and the PC goes to the target; the
zero-page pointer is read after the pushes (D20, D22, log 23). -/
def Obligations.JsrCalls : Prop :=
  ∀ (s : State) (w : Word) (zz : Byte),
    ∀ i ∈ [Instr.jsrAbs w, .jsrSp zz, .jsrZpind zz],
      ∃ t hi lo, exec i s = .next t ∧ IsWord (nextPc i s - 1) hi lo ∧
        Stored (s.stackAddr s.sp) hi s t ∧ Stored (s.stackAddr (s.sp - 1)) lo s t ∧ t.sp = s.sp - 2 ∧
        Keeps [.s] [] [s.stackAddr s.sp, s.stackAddr (s.sp - 1)] s t ∧ t.decPending = false ∧
        (i = .jsrAbs w → t.pc = w) ∧ (i = .jsrSp zz → t.pc.toNat = 0xFF00 + zz.toNat) ∧
        (i = .jsrZpind zz → IsWord t.pc (t.read .pointer (zeroPage (zz + 1))) (t.read .pointer (zeroPage zz)))

/-- RTS (R285): the pulled word plus one (D22, log 23). -/
def Obligations.RtsReturns : Prop :=
  ∀ s : State, ∃ t q, exec .rts s = .next t ∧ t.sp = s.sp + 2 ∧ Keeps [.s] [] [] s t ∧ EndsAt (q + 1) t ∧
    IsWord q (s.read .stack (s.stackAddr (s.sp + 2))) (s.read .stack (s.stackAddr (s.sp + 1)))

/-- A call and a return right after it (R273, R285): where the two stack cells are RAM, control is at the instruction
after the JSR and no register has changed. -/
def Obligations.JsrThenRtsReturns : Prop :=
  ∀ (s : State) (w : Word) (zz : Byte),
    s.kindAt (s.stackAddr s.sp) = .ram → s.kindAt (s.stackAddr (s.sp - 1)) = .ram →
    ∀ i ∈ [Instr.jsrAbs w, .jsrSp zz, .jsrZpind zz],
      ∃ t u, exec i s = .next t ∧ exec .rts t = .next u ∧ u.pc = nextPc i s ∧ KeepsRegs [] s u ∧ KeepsFlags [] s u

/-! ## Interrupts, waiting, reset -/

/-- BRK (R300, R326 to R328): B and I become 1, the PC plus 2 and PS with B = 1 and the old I are pushed, and the PC is
read from the vector, which is BRK's own when no request waits, and otherwise its own or that of a waiting request
(D25, log 17). B as a stored bit is D10 (log 14). -/
def Obligations.BrkEntersHandler : Prop :=
  ∀ s : State,
    ∃ t hi lo ps v, exec .brk s = .next t ∧ IsWord (s.pc + 2) hi lo ∧
      Stored (s.stackAddr s.sp) hi s t ∧ Stored (s.stackAddr (s.sp - 1)) lo s t ∧
      Stored (s.stackAddr (s.sp - 2)) ps s t ∧
      (∀ f : Flag, bitOf ps f.index = if f = .b then true else s.flag f) ∧
      t.sp = s.sp - 3 ∧ KeepsRegs [.s] s t ∧ t.flag .b = true ∧ t.flag .i = true ∧ KeepsFlags [.b, .i] s t ∧
      KeepsMem [s.stackAddr s.sp, s.stackAddr (s.sp - 1), s.stackAddr (s.sp - 2)] s t ∧
      t.pending = s.pending ∧ t.enabled = s.enabled ∧ t.cfg = s.cfg ∧ t.runState = .running ∧
      EndsAt t.pc t ∧ IsWord t.pc (t.read .vector (v + 1)) (t.read .vector v) ∧
      (v = s.cfg.brkVector ∨ ∃ k e, s.cfg.irqTable[k]? = some e ∧ s.pending.getD k false = true ∧
        s.enabled.getD k false = true ∧ v = e.vector) ∧
      ((∀ k < s.cfg.irqTable.length, ¬(s.pending.getD k false = true ∧ s.enabled.getD k false = true)) →
        v = s.cfg.brkVector)

/-- RTI (R284, R329): PS, PCL and PCH are pulled; the PC is not adjusted; the old I is remembered for one boundary (D17,
log 15). -/
def Obligations.RtiReturns : Prop :=
  ∀ s : State, ∃ t, exec .rti s = .next t ∧ t.sp = s.sp + 3 ∧ KeepsRegs [.s] s t ∧
    (∀ f : Flag, t.flag f = bitOf (s.read .stack (s.stackAddr (s.sp + 1))) f.index) ∧
    IsWord t.pc (s.read .stack (s.stackAddr (s.sp + 3))) (s.read .stack (s.stackAddr (s.sp + 2))) ∧
    KeepsMem [] s t ∧ KeepsSystem s t ∧ EndsAt t.pc t ∧ t.oldI = some (s.flag .i)

/-- Which request can be taken (R322 to R325, R302): none while I masks (the old I counting at the one boundary of D17,
log 15); and a taken one is pending and enabled, is let through by I, has a source that works without the clock if the
CPU is stopped, and has no qualifying request before it in IRQ_TABLE (log 16). -/
def Obligations.TakenRequestQualifies : Prop :=
  ∀ s : State,
    (s.flag .i = true → s.oldI ≠ some false → s.acceptedRequest = none) ∧
    (s.acceptedRequest = none ∨
      ∃ k e, s.acceptedRequest = some k ∧ s.cfg.irqTable[k]? = some e ∧ s.pending.getD k false = true ∧
        s.enabled.getD k false = true ∧ (s.flag .i = false ∨ s.oldI = some false) ∧
        (s.runState = .stopped → e.wakesStop = true) ∧
        ∀ j < k, ∀ f, s.cfg.irqTable[j]? = some f →
          ¬(s.pending.getD j false = true ∧ s.enabled.getD j false = true ∧
            (s.runState = .stopped → f.wakesStop = true)))

/-- The interrupt sequence for a request (R326 to R328): it pushes PCH, PCL and PS with B = 0 and the old I, sets I,
clears the request bit, reads the PC from the request's vector, keeps A, X, Y, T and D, and the CPU runs. It is the step
when the request qualifies, no request before it in IRQ_TABLE qualifies (in `stopped` those of sources that cannot end a
stop do not, R302), and the free choice of R324 takes it now; when that choice postpones it, no request is taken at this
boundary (D17, log 15). -/
def Obligations.InterruptEntryEffect : Prop :=
  ∀ (s : State) (k : Nat) (e : IrqSource), s.cfg.irqTable[k]? = some e →
    (∃ t hi lo ps, t = s.interruptEntry k ∧ IsWord s.pc hi lo ∧
      Stored (s.stackAddr s.sp) hi s t ∧ Stored (s.stackAddr (s.sp - 1)) lo s t ∧
      Stored (s.stackAddr (s.sp - 2)) ps s t ∧
      (∀ f : Flag, bitOf ps f.index = if f = .b then false else s.flag f) ∧
      t.sp = s.sp - 3 ∧ KeepsRegs [.s] s t ∧ t.flag .b = false ∧ t.flag .i = true ∧ KeepsFlags [.b, .i] s t ∧
      KeepsMem [s.stackAddr s.sp, s.stackAddr (s.sp - 1), s.stackAddr (s.sp - 2)] s t ∧
      t.pending.getD k false = false ∧ (∀ j, j ≠ k → t.pending.getD j false = s.pending.getD j false) ∧
      t.enabled = s.enabled ∧ t.cfg = s.cfg ∧ t.runState = .running ∧ EndsAt t.pc t ∧ t.oldI = none ∧
      IsWord t.pc (t.read .vector (e.vector + 1)) (t.read .vector e.vector)) ∧
    (s.pending.getD k false = true → s.enabled.getD k false = true → (s.flag .i = false ∨ s.oldI = some false) →
      (s.runState = .stopped → e.wakesStop = true) →
      (∀ j < k, ∀ f, s.cfg.irqTable[j]? = some f →
        ¬(s.pending.getD j false = true ∧ s.enabled.getD j false = true ∧
          (s.runState = .stopped → f.wakesStop = true))) →
      (Config.freeBit .acceptRequest s.draws = true → step s = .next (s.interruptEntry k).tick) ∧
      (Config.freeBit .acceptRequest s.draws = false → s.acceptedRequest = none))

/-- An interrupt or BRK followed at once by RTI (R284, R300, R326, R329), where the three stack cells are RAM: the PC is
the next instruction's (BRK: the PC plus 2), S and every flag are as before but B, which says which of the two it was
(D10, log 14). -/
def Obligations.EntryThenRtiRestores : Prop :=
  ∀ (s : State) (k : Nat),
    s.kindAt (s.stackAddr s.sp) = .ram → s.kindAt (s.stackAddr (s.sp - 1)) = .ram →
    s.kindAt (s.stackAddr (s.sp - 2)) = .ram →
    (∃ u, exec .rti (s.interruptEntry k) = .next u ∧ u.pc = s.pc ∧ KeepsRegs [] s u ∧ KeepsFlags [.b] s u ∧
      u.flag .b = false) ∧
    (∃ t u, exec .brk s = .next t ∧ exec .rti t = .next u ∧ u.pc = s.pc + 2 ∧ KeepsRegs [] s u ∧
      KeepsFlags [.b] s u ∧ u.flag .b = true)

/-- WIT and STP (R301, R302): the PC moves on and the run state changes, nothing else does; a member without them refuses
(R100, D18, log 24). -/
def Obligations.WitStpSuspend : Prop :=
  ∀ s : State,
    (s.cfg.hasStpWit = false → exec .wit s = .refused (.undefinedOpcode 0xC2#8) ∧
      exec .stp s = .refused (.undefinedOpcode 0x42#8)) ∧
    (s.cfg.hasStpWit = true → ∀ p ∈ [(Instr.wit, RunState.waiting), (.stp, .stopped)],
      ∃ t, exec p.1 s = .next t ∧ t.runState = p.2 ∧ EndsAt (s.pc + 1) t ∧ KeepsRegs [] s t ∧ KeepsFlags [] s t ∧
        KeepsMem [] s t ∧ t.pending = s.pending ∧ t.enabled = s.enabled ∧ t.cfg = s.cfg)

/-- A waiting or stopped CPU with I = 1 stays as it is for any number of steps, but for the model's counter of free values
(R301, R302, D21, log 18): only reset ends it. -/
def Obligations.MaskedSuspensionLasts : Prop :=
  ∀ (s : State) (n : Nat), s.runState ≠ .running → s.flag .i = true → s.oldI ≠ some false →
    steps n s = .next { s with draws := s.draws + n }

/-- NOP (R303): nothing but the PC changes, and the hidden state every instruction ends with (R150; `oldI` is the
model's, log 15). -/
def Obligations.NopOnlyMovesPc : Prop :=
  ∀ s : State, encode .nop = [0xEA#8] ∧
    exec .nop s = .next { s with pc := s.pc + 1, decPending := false, oldI := none }

/-- Hardware reset (R360 to R362, D7, D8). Between two steps: I is 1, the CPU runs, nothing is pending or enabled, memory
and the parameters are kept, and the PC is read from the reset vector. In the middle of a step, after its first `n`
stores, it overrides the step, and leaves the same but for memory, which is what these stores have made of it: nothing
stored for `n = 0` and in a suspended CPU; for an interrupt entry, BRK or JSR the first `n` of its bytes pushed, PCH
before PCL; for any other instruction all of its memory effect; and for `n ≥ 3` the step's own memory. That a step is cut
by the number of its stores is the model's form of R362's prefix (log 25). -/
def Obligations.HardwareResetEffect : Prop :=
  (∀ s : State, ResetTo s s.mem s.hardwareReset) ∧
  ∀ (s t : State) (n : Nat), step s = .next t →
    ∃ m u, s.resetDuring n = .next u ∧ ResetTo s m u ∧
      (n = 0 → m = s.mem) ∧ (3 ≤ n → m = t.mem) ∧
      (s.acceptedRequest = none → s.runState ≠ .running → m = s.mem) ∧
      (∀ i, s.acceptedRequest = none → s.runState = .running → s.fetchInstr = some i →
        i.mnemonic ∉ ["BRK", "JSR"] → 1 ≤ n → m = t.mem) ∧
      ∀ ret : Word,
        ((∃ k, s.acceptedRequest = some k) ∧ ret = s.pc ∨
          s.acceptedRequest = none ∧ s.runState = .running ∧ ∃ i, s.fetchInstr = some i ∧
            (i.mnemonic = "BRK" ∧ ret = s.pc + 2 ∨ i.mnemonic = "JSR" ∧ ret = nextPc i s - 1)) →
        ∃ hi lo, IsWord ret hi lo ∧ (n = 1 → m = (s.write (s.stackAddr s.sp) hi).mem) ∧
          (n = 2 → m = ((s.write (s.stackAddr s.sp) hi).write (s.stackAddr (s.sp - 1)) lo).mem)
end

