-- ==== Sys2Proof/Laws/Bits.lean ====
section
/-! SUPPORT. Lemmas about bytes, words and single bits. -/

namespace Sys2Proof.Machine

/-- Writing bit `i` and reading bit `j`: the bit written, or the old one. -/
theorem bitOf_setBit (v : Byte) (i j : Nat) (b : Bool) (hi : i < 8) :
    bitOf (setBit v i b) j = if j = i then b else bitOf v j := by
  unfold bitOf setBit
  rcases Nat.lt_or_ge j 8 with hj | hj
  · by_cases h : j = i
    · subst h; cases b <;> simp [hj]
    · have h1 : ¬(j - i = 0 ∧ i ≤ j) := by omega
      cases b <;> simp [hj, h] <;> omega
  · have h : j ≠ i := by omega
    cases b <;> simp [h, BitVec.getLsbD_of_ge, hj]

@[simp] theorem Flag.index_lt (f : Flag) : f.index < 8 := by cases f <;> decide

theorem Flag.index_inj {f g : Flag} : f.index = g.index ↔ f = g := by
  cases f <;> cases g <;> decide

/-- The word `hi:lo` is `hi * 256 + lo` (R11). -/
theorem toNat_mkWord (hi lo : Byte) : (mkWord hi lo).toNat = hi.toNat * 256 + lo.toNat := by
  have h := Nat.two_pow_add_eq_or_of_lt lo.isLt hi.toNat
  unfold mkWord
  rw [BitVec.toNat_append, Nat.shiftLeft_eq, Nat.mul_comm, ← h]

theorem toNat_lowByte (w : Word) : (lowByte w).toNat = w.toNat % 256 := by
  simp [lowByte]

theorem toNat_highByte (w : Word) : (highByte w).toNat = w.toNat / 256 := by
  have := w.isLt
  simp [highByte, Nat.shiftRight_eq_div_pow]
  omega

@[simp] theorem lowByte_mkWord (hi lo : Byte) : lowByte (mkWord hi lo) = lo := by
  apply BitVec.eq_of_toNat_eq
  have := lo.isLt
  rw [toNat_lowByte, toNat_mkWord]; omega

@[simp] theorem highByte_mkWord (hi lo : Byte) : highByte (mkWord hi lo) = hi := by
  apply BitVec.eq_of_toNat_eq
  have := lo.isLt
  rw [toNat_highByte, toNat_mkWord]; omega

@[simp] theorem mkWord_highByte_lowByte (w : Word) : mkWord (highByte w) (lowByte w) = w := by
  apply BitVec.eq_of_toNat_eq
  rw [toNat_mkWord, toNat_highByte, toNat_lowByte]; omega

theorem mkWord_inj {a b c d : Byte} : mkWord a b = mkWord c d ↔ a = c ∧ b = d := by
  constructor
  · intro h
    exact ⟨by simpa using congrArg highByte h, by simpa using congrArg lowByte h⟩
  · rintro ⟨rfl, rfl⟩; rfl

@[simp] theorem zeroPage_inj {a b : Byte} : zeroPage a = zeroPage b ↔ a = b := by
  simp [zeroPage, mkWord_inj]

end Sys2Proof.Machine
end

