-- ==== Sys2Proof/Laws/Decode.lean ====
section
/-! SUPPORT. The opcode table: no two rows overlap; and the bit number of an Op-Code. -/

namespace Sys2Proof

/-- Two rows select different Op-Codes: on the bits both masks look at, their patterns differ. -/
def OpcodeRow.disjoint (r q : OpcodeRow) : Bool := r.pattern &&& q.mask &&& r.mask != q.pattern &&& r.mask &&& q.mask

/-- Every row of `rows` is disjoint from every later one. -/
def rowsDisjoint : List OpcodeRow → Bool
  | [] => true
  | r :: rest => rest.all (OpcodeRow.disjoint r) && rowsDisjoint rest

set_option maxRecDepth 100000 in
theorem opcodeTable_disjoint : rowsDisjoint opcodeTable = true := by decide +kernel

theorem opcodeTable_length : opcodeTable.length = 175 := by rfl

/-- Bits 7 to 5 of an Op-Code built from a bit number are that bit number (R95). -/
@[simp] theorem opcodeBit_append (b : BitNo) (low : BitVec 5) : opcodeBit (b ++ low) = b := by
  unfold opcodeBit
  apply BitVec.eq_of_getLsbD_eq
  intro i h
  rw [BitVec.getLsbD_extractLsb', BitVec.getLsbD_append]
  simp [h]

end Sys2Proof
end

