-- ==== Sys2Proof/Laws/State.lean ====
section
/-! SUPPORT. One lemma for each field and each named update of the state, true by rfl: later proofs cite these and
unfold no record update. -/

namespace Sys2Proof.Machine

set_option Elab.async false

variable (s : State)

/-! ### setA -/

@[simp] theorem State.setA_a (v : Byte) : (s.setA v).a = v := rfl
@[simp] theorem State.setA_x (v : Byte) : (s.setA v).x = s.x := rfl
@[simp] theorem State.setA_y (v : Byte) : (s.setA v).y = s.y := rfl
@[simp] theorem State.setA_sp (v : Byte) : (s.setA v).sp = s.sp := rfl
@[simp] theorem State.setA_pc (v : Byte) : (s.setA v).pc = s.pc := rfl
@[simp] theorem State.setA_ps (v : Byte) : (s.setA v).ps = s.ps := rfl
@[simp] theorem State.setA_mem (v : Byte) : (s.setA v).mem = s.mem := rfl
@[simp] theorem State.setA_pending (v : Byte) : (s.setA v).pending = s.pending := rfl
@[simp] theorem State.setA_enabled (v : Byte) : (s.setA v).enabled = s.enabled := rfl
@[simp] theorem State.setA_runState (v : Byte) : (s.setA v).runState = s.runState := rfl
@[simp] theorem State.setA_decPending (v : Byte) : (s.setA v).decPending = s.decPending := rfl
@[simp] theorem State.setA_oldI (v : Byte) : (s.setA v).oldI = s.oldI := rfl
@[simp] theorem State.setA_draws (v : Byte) : (s.setA v).draws = s.draws := rfl
@[simp] theorem State.setA_cfg (v : Byte) : (s.setA v).cfg = s.cfg := rfl
@[simp] theorem State.setA_kindAt (v : Byte) (q : Word) : (s.setA v).kindAt q = s.kindAt q := rfl
@[simp] theorem State.setA_stackAddr (v : Byte) (q : Byte) : (s.setA v).stackAddr q = s.stackAddr q := rfl
@[simp] theorem State.setA_read (v : Byte) (acc : Access) (q : Word) : (s.setA v).read acc q = s.read acc q := rfl
@[simp] theorem State.setA_flag (v : Byte) (g : Flag) : (s.setA v).flag g = s.flag g := rfl

/-! ### setX -/

@[simp] theorem State.setX_a (v : Byte) : (s.setX v).a = s.a := rfl
@[simp] theorem State.setX_x (v : Byte) : (s.setX v).x = v := rfl
@[simp] theorem State.setX_y (v : Byte) : (s.setX v).y = s.y := rfl
@[simp] theorem State.setX_sp (v : Byte) : (s.setX v).sp = s.sp := rfl
@[simp] theorem State.setX_pc (v : Byte) : (s.setX v).pc = s.pc := rfl
@[simp] theorem State.setX_ps (v : Byte) : (s.setX v).ps = s.ps := rfl
@[simp] theorem State.setX_mem (v : Byte) : (s.setX v).mem = s.mem := rfl
@[simp] theorem State.setX_pending (v : Byte) : (s.setX v).pending = s.pending := rfl
@[simp] theorem State.setX_enabled (v : Byte) : (s.setX v).enabled = s.enabled := rfl
@[simp] theorem State.setX_runState (v : Byte) : (s.setX v).runState = s.runState := rfl
@[simp] theorem State.setX_decPending (v : Byte) : (s.setX v).decPending = s.decPending := rfl
@[simp] theorem State.setX_oldI (v : Byte) : (s.setX v).oldI = s.oldI := rfl
@[simp] theorem State.setX_draws (v : Byte) : (s.setX v).draws = s.draws := rfl
@[simp] theorem State.setX_cfg (v : Byte) : (s.setX v).cfg = s.cfg := rfl
@[simp] theorem State.setX_kindAt (v : Byte) (q : Word) : (s.setX v).kindAt q = s.kindAt q := rfl
@[simp] theorem State.setX_stackAddr (v : Byte) (q : Byte) : (s.setX v).stackAddr q = s.stackAddr q := rfl
@[simp] theorem State.setX_read (v : Byte) (acc : Access) (q : Word) : (s.setX v).read acc q = s.read acc q := rfl
@[simp] theorem State.setX_flag (v : Byte) (g : Flag) : (s.setX v).flag g = s.flag g := rfl

/-! ### setY -/

@[simp] theorem State.setY_a (v : Byte) : (s.setY v).a = s.a := rfl
@[simp] theorem State.setY_x (v : Byte) : (s.setY v).x = s.x := rfl
@[simp] theorem State.setY_y (v : Byte) : (s.setY v).y = v := rfl
@[simp] theorem State.setY_sp (v : Byte) : (s.setY v).sp = s.sp := rfl
@[simp] theorem State.setY_pc (v : Byte) : (s.setY v).pc = s.pc := rfl
@[simp] theorem State.setY_ps (v : Byte) : (s.setY v).ps = s.ps := rfl
@[simp] theorem State.setY_mem (v : Byte) : (s.setY v).mem = s.mem := rfl
@[simp] theorem State.setY_pending (v : Byte) : (s.setY v).pending = s.pending := rfl
@[simp] theorem State.setY_enabled (v : Byte) : (s.setY v).enabled = s.enabled := rfl
@[simp] theorem State.setY_runState (v : Byte) : (s.setY v).runState = s.runState := rfl
@[simp] theorem State.setY_decPending (v : Byte) : (s.setY v).decPending = s.decPending := rfl
@[simp] theorem State.setY_oldI (v : Byte) : (s.setY v).oldI = s.oldI := rfl
@[simp] theorem State.setY_draws (v : Byte) : (s.setY v).draws = s.draws := rfl
@[simp] theorem State.setY_cfg (v : Byte) : (s.setY v).cfg = s.cfg := rfl
@[simp] theorem State.setY_kindAt (v : Byte) (q : Word) : (s.setY v).kindAt q = s.kindAt q := rfl
@[simp] theorem State.setY_stackAddr (v : Byte) (q : Byte) : (s.setY v).stackAddr q = s.stackAddr q := rfl
@[simp] theorem State.setY_read (v : Byte) (acc : Access) (q : Word) : (s.setY v).read acc q = s.read acc q := rfl
@[simp] theorem State.setY_flag (v : Byte) (g : Flag) : (s.setY v).flag g = s.flag g := rfl

/-! ### setSP -/

@[simp] theorem State.setSP_a (v : Byte) : (s.setSP v).a = s.a := rfl
@[simp] theorem State.setSP_x (v : Byte) : (s.setSP v).x = s.x := rfl
@[simp] theorem State.setSP_y (v : Byte) : (s.setSP v).y = s.y := rfl
@[simp] theorem State.setSP_sp (v : Byte) : (s.setSP v).sp = v := rfl
@[simp] theorem State.setSP_pc (v : Byte) : (s.setSP v).pc = s.pc := rfl
@[simp] theorem State.setSP_ps (v : Byte) : (s.setSP v).ps = s.ps := rfl
@[simp] theorem State.setSP_mem (v : Byte) : (s.setSP v).mem = s.mem := rfl
@[simp] theorem State.setSP_pending (v : Byte) : (s.setSP v).pending = s.pending := rfl
@[simp] theorem State.setSP_enabled (v : Byte) : (s.setSP v).enabled = s.enabled := rfl
@[simp] theorem State.setSP_runState (v : Byte) : (s.setSP v).runState = s.runState := rfl
@[simp] theorem State.setSP_decPending (v : Byte) : (s.setSP v).decPending = s.decPending := rfl
@[simp] theorem State.setSP_oldI (v : Byte) : (s.setSP v).oldI = s.oldI := rfl
@[simp] theorem State.setSP_draws (v : Byte) : (s.setSP v).draws = s.draws := rfl
@[simp] theorem State.setSP_cfg (v : Byte) : (s.setSP v).cfg = s.cfg := rfl
@[simp] theorem State.setSP_kindAt (v : Byte) (q : Word) : (s.setSP v).kindAt q = s.kindAt q := rfl
@[simp] theorem State.setSP_stackAddr (v : Byte) (q : Byte) : (s.setSP v).stackAddr q = s.stackAddr q := rfl
@[simp] theorem State.setSP_read (v : Byte) (acc : Access) (q : Word) : (s.setSP v).read acc q = s.read acc q := rfl
@[simp] theorem State.setSP_flag (v : Byte) (g : Flag) : (s.setSP v).flag g = s.flag g := rfl

/-! ### setPS -/

@[simp] theorem State.setPS_a (v : Byte) : (s.setPS v).a = s.a := rfl
@[simp] theorem State.setPS_x (v : Byte) : (s.setPS v).x = s.x := rfl
@[simp] theorem State.setPS_y (v : Byte) : (s.setPS v).y = s.y := rfl
@[simp] theorem State.setPS_sp (v : Byte) : (s.setPS v).sp = s.sp := rfl
@[simp] theorem State.setPS_pc (v : Byte) : (s.setPS v).pc = s.pc := rfl
@[simp] theorem State.setPS_ps (v : Byte) : (s.setPS v).ps = v := rfl
@[simp] theorem State.setPS_mem (v : Byte) : (s.setPS v).mem = s.mem := rfl
@[simp] theorem State.setPS_pending (v : Byte) : (s.setPS v).pending = s.pending := rfl
@[simp] theorem State.setPS_enabled (v : Byte) : (s.setPS v).enabled = s.enabled := rfl
@[simp] theorem State.setPS_runState (v : Byte) : (s.setPS v).runState = s.runState := rfl
@[simp] theorem State.setPS_decPending (v : Byte) : (s.setPS v).decPending = s.decPending := rfl
@[simp] theorem State.setPS_oldI (v : Byte) : (s.setPS v).oldI = s.oldI := rfl
@[simp] theorem State.setPS_draws (v : Byte) : (s.setPS v).draws = s.draws := rfl
@[simp] theorem State.setPS_cfg (v : Byte) : (s.setPS v).cfg = s.cfg := rfl
@[simp] theorem State.setPS_kindAt (v : Byte) (q : Word) : (s.setPS v).kindAt q = s.kindAt q := rfl
@[simp] theorem State.setPS_stackAddr (v : Byte) (q : Byte) : (s.setPS v).stackAddr q = s.stackAddr q := rfl
@[simp] theorem State.setPS_read (v : Byte) (acc : Access) (q : Word) : (s.setPS v).read acc q = s.read acc q := rfl

/-! ### setRunState -/

@[simp] theorem State.setRunState_a (r : RunState) : (s.setRunState r).a = s.a := rfl
@[simp] theorem State.setRunState_x (r : RunState) : (s.setRunState r).x = s.x := rfl
@[simp] theorem State.setRunState_y (r : RunState) : (s.setRunState r).y = s.y := rfl
@[simp] theorem State.setRunState_sp (r : RunState) : (s.setRunState r).sp = s.sp := rfl
@[simp] theorem State.setRunState_pc (r : RunState) : (s.setRunState r).pc = s.pc := rfl
@[simp] theorem State.setRunState_ps (r : RunState) : (s.setRunState r).ps = s.ps := rfl
@[simp] theorem State.setRunState_mem (r : RunState) : (s.setRunState r).mem = s.mem := rfl
@[simp] theorem State.setRunState_pending (r : RunState) : (s.setRunState r).pending = s.pending := rfl
@[simp] theorem State.setRunState_enabled (r : RunState) : (s.setRunState r).enabled = s.enabled := rfl
@[simp] theorem State.setRunState_runState (r : RunState) : (s.setRunState r).runState = r := rfl
@[simp] theorem State.setRunState_decPending (r : RunState) : (s.setRunState r).decPending = s.decPending := rfl
@[simp] theorem State.setRunState_oldI (r : RunState) : (s.setRunState r).oldI = s.oldI := rfl
@[simp] theorem State.setRunState_draws (r : RunState) : (s.setRunState r).draws = s.draws := rfl
@[simp] theorem State.setRunState_cfg (r : RunState) : (s.setRunState r).cfg = s.cfg := rfl
@[simp] theorem State.setRunState_kindAt (r : RunState) (q : Word) : (s.setRunState r).kindAt q = s.kindAt q := rfl
@[simp] theorem State.setRunState_stackAddr (r : RunState) (q : Byte) : (s.setRunState r).stackAddr q = s.stackAddr q := rfl
@[simp] theorem State.setRunState_read (r : RunState) (acc : Access) (q : Word) : (s.setRunState r).read acc q = s.read acc q := rfl
@[simp] theorem State.setRunState_flag (r : RunState) (g : Flag) : (s.setRunState r).flag g = s.flag g := rfl

/-! ### setPending -/

@[simp] theorem State.setPending_a (k : Nat) (b : Bool) : (s.setPending k b).a = s.a := rfl
@[simp] theorem State.setPending_x (k : Nat) (b : Bool) : (s.setPending k b).x = s.x := rfl
@[simp] theorem State.setPending_y (k : Nat) (b : Bool) : (s.setPending k b).y = s.y := rfl
@[simp] theorem State.setPending_sp (k : Nat) (b : Bool) : (s.setPending k b).sp = s.sp := rfl
@[simp] theorem State.setPending_pc (k : Nat) (b : Bool) : (s.setPending k b).pc = s.pc := rfl
@[simp] theorem State.setPending_ps (k : Nat) (b : Bool) : (s.setPending k b).ps = s.ps := rfl
@[simp] theorem State.setPending_mem (k : Nat) (b : Bool) : (s.setPending k b).mem = s.mem := rfl
@[simp] theorem State.setPending_pending (k : Nat) (b : Bool) : (s.setPending k b).pending = s.pending.set k b := rfl
@[simp] theorem State.setPending_enabled (k : Nat) (b : Bool) : (s.setPending k b).enabled = s.enabled := rfl
@[simp] theorem State.setPending_runState (k : Nat) (b : Bool) : (s.setPending k b).runState = s.runState := rfl
@[simp] theorem State.setPending_decPending (k : Nat) (b : Bool) : (s.setPending k b).decPending = s.decPending := rfl
@[simp] theorem State.setPending_oldI (k : Nat) (b : Bool) : (s.setPending k b).oldI = s.oldI := rfl
@[simp] theorem State.setPending_draws (k : Nat) (b : Bool) : (s.setPending k b).draws = s.draws := rfl
@[simp] theorem State.setPending_cfg (k : Nat) (b : Bool) : (s.setPending k b).cfg = s.cfg := rfl
@[simp] theorem State.setPending_kindAt (k : Nat) (b : Bool) (q : Word) : (s.setPending k b).kindAt q = s.kindAt q := rfl
@[simp] theorem State.setPending_stackAddr (k : Nat) (b : Bool) (q : Byte) : (s.setPending k b).stackAddr q = s.stackAddr q := rfl
@[simp] theorem State.setPending_read (k : Nat) (b : Bool) (acc : Access) (q : Word) : (s.setPending k b).read acc q = s.read acc q := rfl
@[simp] theorem State.setPending_flag (k : Nat) (b : Bool) (g : Flag) : (s.setPending k b).flag g = s.flag g := rfl

/-! ### write -/

@[simp] theorem State.write_a (w : Word) (v : Byte) : (s.write w v).a = s.a := rfl
@[simp] theorem State.write_x (w : Word) (v : Byte) : (s.write w v).x = s.x := rfl
@[simp] theorem State.write_y (w : Word) (v : Byte) : (s.write w v).y = s.y := rfl
@[simp] theorem State.write_sp (w : Word) (v : Byte) : (s.write w v).sp = s.sp := rfl
@[simp] theorem State.write_pc (w : Word) (v : Byte) : (s.write w v).pc = s.pc := rfl
@[simp] theorem State.write_ps (w : Word) (v : Byte) : (s.write w v).ps = s.ps := rfl
@[simp] theorem State.write_pending (w : Word) (v : Byte) : (s.write w v).pending = s.pending := rfl
@[simp] theorem State.write_enabled (w : Word) (v : Byte) : (s.write w v).enabled = s.enabled := rfl
@[simp] theorem State.write_runState (w : Word) (v : Byte) : (s.write w v).runState = s.runState := rfl
@[simp] theorem State.write_decPending (w : Word) (v : Byte) : (s.write w v).decPending = s.decPending := rfl
@[simp] theorem State.write_oldI (w : Word) (v : Byte) : (s.write w v).oldI = s.oldI := rfl
@[simp] theorem State.write_draws (w : Word) (v : Byte) : (s.write w v).draws = s.draws := rfl
@[simp] theorem State.write_cfg (w : Word) (v : Byte) : (s.write w v).cfg = s.cfg := rfl
@[simp] theorem State.write_kindAt (w : Word) (v : Byte) (q : Word) : (s.write w v).kindAt q = s.kindAt q := rfl
@[simp] theorem State.write_stackAddr (w : Word) (v : Byte) (q : Byte) : (s.write w v).stackAddr q = s.stackAddr q := rfl
@[simp] theorem State.write_flag (w : Word) (v : Byte) (g : Flag) : (s.write w v).flag g = s.flag g := rfl

/-! ### setFlag -/

@[simp] theorem State.setFlag_a (f : Flag) (b : Bool) : (s.setFlag f b).a = s.a := rfl
@[simp] theorem State.setFlag_x (f : Flag) (b : Bool) : (s.setFlag f b).x = s.x := rfl
@[simp] theorem State.setFlag_y (f : Flag) (b : Bool) : (s.setFlag f b).y = s.y := rfl
@[simp] theorem State.setFlag_sp (f : Flag) (b : Bool) : (s.setFlag f b).sp = s.sp := rfl
@[simp] theorem State.setFlag_pc (f : Flag) (b : Bool) : (s.setFlag f b).pc = s.pc := rfl
@[simp] theorem State.setFlag_ps (f : Flag) (b : Bool) : (s.setFlag f b).ps = setBit s.ps f.index b := rfl
@[simp] theorem State.setFlag_mem (f : Flag) (b : Bool) : (s.setFlag f b).mem = s.mem := rfl
@[simp] theorem State.setFlag_pending (f : Flag) (b : Bool) : (s.setFlag f b).pending = s.pending := rfl
@[simp] theorem State.setFlag_enabled (f : Flag) (b : Bool) : (s.setFlag f b).enabled = s.enabled := rfl
@[simp] theorem State.setFlag_runState (f : Flag) (b : Bool) : (s.setFlag f b).runState = s.runState := rfl
@[simp] theorem State.setFlag_decPending (f : Flag) (b : Bool) : (s.setFlag f b).decPending = s.decPending := rfl
@[simp] theorem State.setFlag_oldI (f : Flag) (b : Bool) : (s.setFlag f b).oldI = s.oldI := rfl
@[simp] theorem State.setFlag_draws (f : Flag) (b : Bool) : (s.setFlag f b).draws = s.draws := rfl
@[simp] theorem State.setFlag_cfg (f : Flag) (b : Bool) : (s.setFlag f b).cfg = s.cfg := rfl
@[simp] theorem State.setFlag_kindAt (f : Flag) (b : Bool) (q : Word) : (s.setFlag f b).kindAt q = s.kindAt q := rfl
@[simp] theorem State.setFlag_stackAddr (f : Flag) (b : Bool) (q : Byte) : (s.setFlag f b).stackAddr q = s.stackAddr q := rfl
@[simp] theorem State.setFlag_read (f : Flag) (b : Bool) (acc : Access) (q : Word) : (s.setFlag f b).read acc q = s.read acc q := rfl

/-! ### setNZ -/

@[simp] theorem State.setNZ_a (v : Byte) : (s.setNZ v).a = s.a := rfl
@[simp] theorem State.setNZ_x (v : Byte) : (s.setNZ v).x = s.x := rfl
@[simp] theorem State.setNZ_y (v : Byte) : (s.setNZ v).y = s.y := rfl
@[simp] theorem State.setNZ_sp (v : Byte) : (s.setNZ v).sp = s.sp := rfl
@[simp] theorem State.setNZ_pc (v : Byte) : (s.setNZ v).pc = s.pc := rfl
@[simp] theorem State.setNZ_mem (v : Byte) : (s.setNZ v).mem = s.mem := rfl
@[simp] theorem State.setNZ_pending (v : Byte) : (s.setNZ v).pending = s.pending := rfl
@[simp] theorem State.setNZ_enabled (v : Byte) : (s.setNZ v).enabled = s.enabled := rfl
@[simp] theorem State.setNZ_runState (v : Byte) : (s.setNZ v).runState = s.runState := rfl
@[simp] theorem State.setNZ_decPending (v : Byte) : (s.setNZ v).decPending = s.decPending := rfl
@[simp] theorem State.setNZ_oldI (v : Byte) : (s.setNZ v).oldI = s.oldI := rfl
@[simp] theorem State.setNZ_draws (v : Byte) : (s.setNZ v).draws = s.draws := rfl
@[simp] theorem State.setNZ_cfg (v : Byte) : (s.setNZ v).cfg = s.cfg := rfl
@[simp] theorem State.setNZ_kindAt (v : Byte) (q : Word) : (s.setNZ v).kindAt q = s.kindAt q := rfl
@[simp] theorem State.setNZ_stackAddr (v : Byte) (q : Byte) : (s.setNZ v).stackAddr q = s.stackAddr q := rfl
@[simp] theorem State.setNZ_read (v : Byte) (acc : Access) (q : Word) : (s.setNZ v).read acc q = s.read acc q := rfl

/-! ### setArith -/

@[simp] theorem State.setArith_a (r : AluResult) : (s.setArith r).a = s.a := rfl
@[simp] theorem State.setArith_x (r : AluResult) : (s.setArith r).x = s.x := rfl
@[simp] theorem State.setArith_y (r : AluResult) : (s.setArith r).y = s.y := rfl
@[simp] theorem State.setArith_sp (r : AluResult) : (s.setArith r).sp = s.sp := rfl
@[simp] theorem State.setArith_pc (r : AluResult) : (s.setArith r).pc = s.pc := rfl
@[simp] theorem State.setArith_mem (r : AluResult) : (s.setArith r).mem = s.mem := rfl
@[simp] theorem State.setArith_pending (r : AluResult) : (s.setArith r).pending = s.pending := rfl
@[simp] theorem State.setArith_enabled (r : AluResult) : (s.setArith r).enabled = s.enabled := rfl
@[simp] theorem State.setArith_runState (r : AluResult) : (s.setArith r).runState = s.runState := rfl
@[simp] theorem State.setArith_decPending (r : AluResult) : (s.setArith r).decPending = s.decPending := rfl
@[simp] theorem State.setArith_oldI (r : AluResult) : (s.setArith r).oldI = s.oldI := rfl
@[simp] theorem State.setArith_draws (r : AluResult) : (s.setArith r).draws = s.draws := rfl
@[simp] theorem State.setArith_cfg (r : AluResult) : (s.setArith r).cfg = s.cfg := rfl
@[simp] theorem State.setArith_kindAt (r : AluResult) (q : Word) : (s.setArith r).kindAt q = s.kindAt q := rfl
@[simp] theorem State.setArith_stackAddr (r : AluResult) (q : Byte) : (s.setArith r).stackAddr q = s.stackAddr q := rfl
@[simp] theorem State.setArith_read (r : AluResult) (acc : Access) (q : Word) : (s.setArith r).read acc q = s.read acc q := rfl

/-! ### setCompare -/

@[simp] theorem State.setCompare_a (r : CompareResult) : (s.setCompare r).a = s.a := rfl
@[simp] theorem State.setCompare_x (r : CompareResult) : (s.setCompare r).x = s.x := rfl
@[simp] theorem State.setCompare_y (r : CompareResult) : (s.setCompare r).y = s.y := rfl
@[simp] theorem State.setCompare_sp (r : CompareResult) : (s.setCompare r).sp = s.sp := rfl
@[simp] theorem State.setCompare_pc (r : CompareResult) : (s.setCompare r).pc = s.pc := rfl
@[simp] theorem State.setCompare_mem (r : CompareResult) : (s.setCompare r).mem = s.mem := rfl
@[simp] theorem State.setCompare_pending (r : CompareResult) : (s.setCompare r).pending = s.pending := rfl
@[simp] theorem State.setCompare_enabled (r : CompareResult) : (s.setCompare r).enabled = s.enabled := rfl
@[simp] theorem State.setCompare_runState (r : CompareResult) : (s.setCompare r).runState = s.runState := rfl
@[simp] theorem State.setCompare_decPending (r : CompareResult) : (s.setCompare r).decPending = s.decPending := rfl
@[simp] theorem State.setCompare_oldI (r : CompareResult) : (s.setCompare r).oldI = s.oldI := rfl
@[simp] theorem State.setCompare_draws (r : CompareResult) : (s.setCompare r).draws = s.draws := rfl
@[simp] theorem State.setCompare_cfg (r : CompareResult) : (s.setCompare r).cfg = s.cfg := rfl
@[simp] theorem State.setCompare_kindAt (r : CompareResult) (q : Word) : (s.setCompare r).kindAt q = s.kindAt q := rfl
@[simp] theorem State.setCompare_stackAddr (r : CompareResult) (q : Byte) : (s.setCompare r).stackAddr q = s.stackAddr q := rfl
@[simp] theorem State.setCompare_read (r : CompareResult) (acc : Access) (q : Word) : (s.setCompare r).read acc q = s.read acc q := rfl

/-! ### advance -/

@[simp] theorem State.advance_a (n : Nat) : (s.advance n).a = s.a := rfl
@[simp] theorem State.advance_x (n : Nat) : (s.advance n).x = s.x := rfl
@[simp] theorem State.advance_y (n : Nat) : (s.advance n).y = s.y := rfl
@[simp] theorem State.advance_sp (n : Nat) : (s.advance n).sp = s.sp := rfl
@[simp] theorem State.advance_pc (n : Nat) : (s.advance n).pc = s.pc + BitVec.ofNat 16 n := rfl
@[simp] theorem State.advance_ps (n : Nat) : (s.advance n).ps = s.ps := rfl
@[simp] theorem State.advance_mem (n : Nat) : (s.advance n).mem = s.mem := rfl
@[simp] theorem State.advance_pending (n : Nat) : (s.advance n).pending = s.pending := rfl
@[simp] theorem State.advance_enabled (n : Nat) : (s.advance n).enabled = s.enabled := rfl
@[simp] theorem State.advance_runState (n : Nat) : (s.advance n).runState = s.runState := rfl
@[simp] theorem State.advance_decPending (n : Nat) : (s.advance n).decPending = false := rfl
@[simp] theorem State.advance_oldI (n : Nat) : (s.advance n).oldI = none := rfl
@[simp] theorem State.advance_draws (n : Nat) : (s.advance n).draws = s.draws := rfl
@[simp] theorem State.advance_cfg (n : Nat) : (s.advance n).cfg = s.cfg := rfl
@[simp] theorem State.advance_kindAt (n : Nat) (q : Word) : (s.advance n).kindAt q = s.kindAt q := rfl
@[simp] theorem State.advance_stackAddr (n : Nat) (q : Byte) : (s.advance n).stackAddr q = s.stackAddr q := rfl
@[simp] theorem State.advance_read (n : Nat) (acc : Access) (q : Word) : (s.advance n).read acc q = s.read acc q := rfl
@[simp] theorem State.advance_flag (n : Nat) (g : Flag) : (s.advance n).flag g = s.flag g := rfl

/-! ### goto -/

@[simp] theorem State.goto_a (w : Word) : (s.goto w).a = s.a := rfl
@[simp] theorem State.goto_x (w : Word) : (s.goto w).x = s.x := rfl
@[simp] theorem State.goto_y (w : Word) : (s.goto w).y = s.y := rfl
@[simp] theorem State.goto_sp (w : Word) : (s.goto w).sp = s.sp := rfl
@[simp] theorem State.goto_pc (w : Word) : (s.goto w).pc = w := rfl
@[simp] theorem State.goto_ps (w : Word) : (s.goto w).ps = s.ps := rfl
@[simp] theorem State.goto_mem (w : Word) : (s.goto w).mem = s.mem := rfl
@[simp] theorem State.goto_pending (w : Word) : (s.goto w).pending = s.pending := rfl
@[simp] theorem State.goto_enabled (w : Word) : (s.goto w).enabled = s.enabled := rfl
@[simp] theorem State.goto_runState (w : Word) : (s.goto w).runState = s.runState := rfl
@[simp] theorem State.goto_decPending (w : Word) : (s.goto w).decPending = false := rfl
@[simp] theorem State.goto_oldI (w : Word) : (s.goto w).oldI = none := rfl
@[simp] theorem State.goto_draws (w : Word) : (s.goto w).draws = s.draws := rfl
@[simp] theorem State.goto_cfg (w : Word) : (s.goto w).cfg = s.cfg := rfl
@[simp] theorem State.goto_kindAt (w : Word) (q : Word) : (s.goto w).kindAt q = s.kindAt q := rfl
@[simp] theorem State.goto_stackAddr (w : Word) (q : Byte) : (s.goto w).stackAddr q = s.stackAddr q := rfl
@[simp] theorem State.goto_read (w : Word) (acc : Access) (q : Word) : (s.goto w).read acc q = s.read acc q := rfl
@[simp] theorem State.goto_flag (w : Word) (g : Flag) : (s.goto w).flag g = s.flag g := rfl

/-! ### rememberI -/

@[simp] theorem State.rememberI_a (b : Bool) : (s.rememberI b).a = s.a := rfl
@[simp] theorem State.rememberI_x (b : Bool) : (s.rememberI b).x = s.x := rfl
@[simp] theorem State.rememberI_y (b : Bool) : (s.rememberI b).y = s.y := rfl
@[simp] theorem State.rememberI_sp (b : Bool) : (s.rememberI b).sp = s.sp := rfl
@[simp] theorem State.rememberI_pc (b : Bool) : (s.rememberI b).pc = s.pc := rfl
@[simp] theorem State.rememberI_ps (b : Bool) : (s.rememberI b).ps = s.ps := rfl
@[simp] theorem State.rememberI_mem (b : Bool) : (s.rememberI b).mem = s.mem := rfl
@[simp] theorem State.rememberI_pending (b : Bool) : (s.rememberI b).pending = s.pending := rfl
@[simp] theorem State.rememberI_enabled (b : Bool) : (s.rememberI b).enabled = s.enabled := rfl
@[simp] theorem State.rememberI_runState (b : Bool) : (s.rememberI b).runState = s.runState := rfl
@[simp] theorem State.rememberI_decPending (b : Bool) : (s.rememberI b).decPending = s.decPending := rfl
@[simp] theorem State.rememberI_oldI (b : Bool) : (s.rememberI b).oldI = some b := rfl
@[simp] theorem State.rememberI_draws (b : Bool) : (s.rememberI b).draws = s.draws := rfl
@[simp] theorem State.rememberI_cfg (b : Bool) : (s.rememberI b).cfg = s.cfg := rfl
@[simp] theorem State.rememberI_kindAt (b : Bool) (q : Word) : (s.rememberI b).kindAt q = s.kindAt q := rfl
@[simp] theorem State.rememberI_stackAddr (b : Bool) (q : Byte) : (s.rememberI b).stackAddr q = s.stackAddr q := rfl
@[simp] theorem State.rememberI_read (b : Bool) (acc : Access) (q : Word) : (s.rememberI b).read acc q = s.read acc q := rfl
@[simp] theorem State.rememberI_flag (b : Bool) (g : Flag) : (s.rememberI b).flag g = s.flag g := rfl

/-! ### setDecPending -/

@[simp] theorem State.setDecPending_a (b : Bool) : (s.setDecPending b).a = s.a := rfl
@[simp] theorem State.setDecPending_x (b : Bool) : (s.setDecPending b).x = s.x := rfl
@[simp] theorem State.setDecPending_y (b : Bool) : (s.setDecPending b).y = s.y := rfl
@[simp] theorem State.setDecPending_sp (b : Bool) : (s.setDecPending b).sp = s.sp := rfl
@[simp] theorem State.setDecPending_pc (b : Bool) : (s.setDecPending b).pc = s.pc := rfl
@[simp] theorem State.setDecPending_ps (b : Bool) : (s.setDecPending b).ps = s.ps := rfl
@[simp] theorem State.setDecPending_mem (b : Bool) : (s.setDecPending b).mem = s.mem := rfl
@[simp] theorem State.setDecPending_pending (b : Bool) : (s.setDecPending b).pending = s.pending := rfl
@[simp] theorem State.setDecPending_enabled (b : Bool) : (s.setDecPending b).enabled = s.enabled := rfl
@[simp] theorem State.setDecPending_runState (b : Bool) : (s.setDecPending b).runState = s.runState := rfl
@[simp] theorem State.setDecPending_decPending (b : Bool) : (s.setDecPending b).decPending = b := rfl
@[simp] theorem State.setDecPending_oldI (b : Bool) : (s.setDecPending b).oldI = s.oldI := rfl
@[simp] theorem State.setDecPending_draws (b : Bool) : (s.setDecPending b).draws = s.draws := rfl
@[simp] theorem State.setDecPending_cfg (b : Bool) : (s.setDecPending b).cfg = s.cfg := rfl
@[simp] theorem State.setDecPending_kindAt (b : Bool) (q : Word) : (s.setDecPending b).kindAt q = s.kindAt q := rfl
@[simp] theorem State.setDecPending_stackAddr (b : Bool) (q : Byte) : (s.setDecPending b).stackAddr q = s.stackAddr q := rfl
@[simp] theorem State.setDecPending_read (b : Bool) (acc : Access) (q : Word) : (s.setDecPending b).read acc q = s.read acc q := rfl
@[simp] theorem State.setDecPending_flag (b : Bool) (g : Flag) : (s.setDecPending b).flag g = s.flag g := rfl

/-! ### push8 -/

@[simp] theorem State.push8_a (v : Byte) : (s.push8 v).a = s.a := rfl
@[simp] theorem State.push8_x (v : Byte) : (s.push8 v).x = s.x := rfl
@[simp] theorem State.push8_y (v : Byte) : (s.push8 v).y = s.y := rfl
@[simp] theorem State.push8_sp (v : Byte) : (s.push8 v).sp = s.sp - 1 := rfl
@[simp] theorem State.push8_pc (v : Byte) : (s.push8 v).pc = s.pc := rfl
@[simp] theorem State.push8_ps (v : Byte) : (s.push8 v).ps = s.ps := rfl
@[simp] theorem State.push8_mem (v : Byte) : (s.push8 v).mem = (s.write (s.stackAddr s.sp) v).mem := rfl
@[simp] theorem State.push8_pending (v : Byte) : (s.push8 v).pending = s.pending := rfl
@[simp] theorem State.push8_enabled (v : Byte) : (s.push8 v).enabled = s.enabled := rfl
@[simp] theorem State.push8_runState (v : Byte) : (s.push8 v).runState = s.runState := rfl
@[simp] theorem State.push8_decPending (v : Byte) : (s.push8 v).decPending = s.decPending := rfl
@[simp] theorem State.push8_oldI (v : Byte) : (s.push8 v).oldI = s.oldI := rfl
@[simp] theorem State.push8_draws (v : Byte) : (s.push8 v).draws = s.draws := rfl
@[simp] theorem State.push8_cfg (v : Byte) : (s.push8 v).cfg = s.cfg := rfl
@[simp] theorem State.push8_kindAt (v : Byte) (q : Word) : (s.push8 v).kindAt q = s.kindAt q := rfl
@[simp] theorem State.push8_stackAddr (v : Byte) (q : Byte) : (s.push8 v).stackAddr q = s.stackAddr q := rfl
@[simp] theorem State.push8_flag (v : Byte) (g : Flag) : (s.push8 v).flag g = s.flag g := rfl

/-! ### popped -/

@[simp] theorem State.popped_a : (s.popped).a = s.a := rfl
@[simp] theorem State.popped_x : (s.popped).x = s.x := rfl
@[simp] theorem State.popped_y : (s.popped).y = s.y := rfl
@[simp] theorem State.popped_sp : (s.popped).sp = s.sp + 1 := rfl
@[simp] theorem State.popped_pc : (s.popped).pc = s.pc := rfl
@[simp] theorem State.popped_ps : (s.popped).ps = s.ps := rfl
@[simp] theorem State.popped_mem : (s.popped).mem = s.mem := rfl
@[simp] theorem State.popped_pending : (s.popped).pending = s.pending := rfl
@[simp] theorem State.popped_enabled : (s.popped).enabled = s.enabled := rfl
@[simp] theorem State.popped_runState : (s.popped).runState = s.runState := rfl
@[simp] theorem State.popped_decPending : (s.popped).decPending = s.decPending := rfl
@[simp] theorem State.popped_oldI : (s.popped).oldI = s.oldI := rfl
@[simp] theorem State.popped_draws : (s.popped).draws = s.draws := rfl
@[simp] theorem State.popped_cfg : (s.popped).cfg = s.cfg := rfl
@[simp] theorem State.popped_kindAt (q : Word) : (s.popped).kindAt q = s.kindAt q := rfl
@[simp] theorem State.popped_stackAddr (q : Byte) : (s.popped).stackAddr q = s.stackAddr q := rfl
@[simp] theorem State.popped_read (acc : Access) (q : Word) : (s.popped).read acc q = s.read acc q := rfl
@[simp] theorem State.popped_flag (g : Flag) : (s.popped).flag g = s.flag g := rfl

/-! ### pushWord -/

@[simp] theorem State.pushWord_a (w : Word) : (s.pushWord w).a = s.a := rfl
@[simp] theorem State.pushWord_x (w : Word) : (s.pushWord w).x = s.x := rfl
@[simp] theorem State.pushWord_y (w : Word) : (s.pushWord w).y = s.y := rfl
@[simp] theorem State.pushWord_sp (w : Word) : (s.pushWord w).sp = s.sp - 1 - 1 := rfl
@[simp] theorem State.pushWord_pc (w : Word) : (s.pushWord w).pc = s.pc := rfl
@[simp] theorem State.pushWord_ps (w : Word) : (s.pushWord w).ps = s.ps := rfl
@[simp] theorem State.pushWord_pending (w : Word) : (s.pushWord w).pending = s.pending := rfl
@[simp] theorem State.pushWord_enabled (w : Word) : (s.pushWord w).enabled = s.enabled := rfl
@[simp] theorem State.pushWord_runState (w : Word) : (s.pushWord w).runState = s.runState := rfl
@[simp] theorem State.pushWord_decPending (w : Word) : (s.pushWord w).decPending = s.decPending := rfl
@[simp] theorem State.pushWord_oldI (w : Word) : (s.pushWord w).oldI = s.oldI := rfl
@[simp] theorem State.pushWord_draws (w : Word) : (s.pushWord w).draws = s.draws := rfl
@[simp] theorem State.pushWord_cfg (w : Word) : (s.pushWord w).cfg = s.cfg := rfl
@[simp] theorem State.pushWord_kindAt (w : Word) (q : Word) : (s.pushWord w).kindAt q = s.kindAt q := rfl
@[simp] theorem State.pushWord_stackAddr (w : Word) (q : Byte) : (s.pushWord w).stackAddr q = s.stackAddr q := rfl
@[simp] theorem State.pushWord_flag (w : Word) (g : Flag) : (s.pushWord w).flag g = s.flag g := rfl

/-! ### tick -/

@[simp] theorem State.tick_a : (s.tick).a = s.a := rfl
@[simp] theorem State.tick_x : (s.tick).x = s.x := rfl
@[simp] theorem State.tick_y : (s.tick).y = s.y := rfl
@[simp] theorem State.tick_sp : (s.tick).sp = s.sp := rfl
@[simp] theorem State.tick_pc : (s.tick).pc = s.pc := rfl
@[simp] theorem State.tick_ps : (s.tick).ps = s.ps := rfl
@[simp] theorem State.tick_mem : (s.tick).mem = s.mem := rfl
@[simp] theorem State.tick_pending : (s.tick).pending = s.pending := rfl
@[simp] theorem State.tick_enabled : (s.tick).enabled = s.enabled := rfl
@[simp] theorem State.tick_runState : (s.tick).runState = s.runState := rfl
@[simp] theorem State.tick_decPending : (s.tick).decPending = s.decPending := rfl
@[simp] theorem State.tick_oldI : (s.tick).oldI = s.oldI := rfl
@[simp] theorem State.tick_draws : (s.tick).draws = s.draws + 1 := rfl
@[simp] theorem State.tick_cfg : (s.tick).cfg = s.cfg := rfl
@[simp] theorem State.tick_kindAt (q : Word) : (s.tick).kindAt q = s.kindAt q := rfl
@[simp] theorem State.tick_stackAddr (q : Byte) : (s.tick).stackAddr q = s.stackAddr q := rfl
@[simp] theorem State.tick_flag (g : Flag) : (s.tick).flag g = s.flag g := rfl

/-! ### T mode and operands: the two updates that choose their destination -/

variable (r : Byte) (o : Operand)

@[simp] theorem State.writeResult_x : (s.writeResult r).x = s.x := by
  unfold State.writeResult; split <;> rfl
@[simp] theorem State.writeResult_y : (s.writeResult r).y = s.y := by
  unfold State.writeResult; split <;> rfl
@[simp] theorem State.writeResult_sp : (s.writeResult r).sp = s.sp := by
  unfold State.writeResult; split <;> rfl
@[simp] theorem State.writeResult_pc : (s.writeResult r).pc = s.pc := by
  unfold State.writeResult; split <;> rfl
@[simp] theorem State.writeResult_ps : (s.writeResult r).ps = s.ps := by
  unfold State.writeResult; split <;> rfl
@[simp] theorem State.writeResult_pending : (s.writeResult r).pending = s.pending := by
  unfold State.writeResult; split <;> rfl
@[simp] theorem State.writeResult_enabled : (s.writeResult r).enabled = s.enabled := by
  unfold State.writeResult; split <;> rfl
@[simp] theorem State.writeResult_runState : (s.writeResult r).runState = s.runState := by
  unfold State.writeResult; split <;> rfl
@[simp] theorem State.writeResult_decPending : (s.writeResult r).decPending = s.decPending := by
  unfold State.writeResult; split <;> rfl
@[simp] theorem State.writeResult_oldI : (s.writeResult r).oldI = s.oldI := by
  unfold State.writeResult; split <;> rfl
@[simp] theorem State.writeResult_draws : (s.writeResult r).draws = s.draws := by
  unfold State.writeResult; split <;> rfl
@[simp] theorem State.writeResult_cfg : (s.writeResult r).cfg = s.cfg := by
  unfold State.writeResult; split <;> rfl
@[simp] theorem State.writeResult_kindAt (q : Word) : (s.writeResult r).kindAt q = s.kindAt q := by
  unfold State.writeResult; split <;> rfl
@[simp] theorem State.writeResult_flag (g : Flag) : (s.writeResult r).flag g = s.flag g := by
  unfold State.writeResult; split <;> rfl

@[simp] theorem Operand.put_x : (o.put s r).x = s.x := by
  unfold Operand.put; repeat' split
  all_goals rfl
@[simp] theorem Operand.put_y : (o.put s r).y = s.y := by
  unfold Operand.put; repeat' split
  all_goals rfl
@[simp] theorem Operand.put_sp : (o.put s r).sp = s.sp := by
  unfold Operand.put; repeat' split
  all_goals rfl
@[simp] theorem Operand.put_pc : (o.put s r).pc = s.pc := by
  unfold Operand.put; repeat' split
  all_goals rfl
@[simp] theorem Operand.put_ps : (o.put s r).ps = s.ps := by
  unfold Operand.put; repeat' split
  all_goals rfl
@[simp] theorem Operand.put_pending : (o.put s r).pending = s.pending := by
  unfold Operand.put; repeat' split
  all_goals rfl
@[simp] theorem Operand.put_enabled : (o.put s r).enabled = s.enabled := by
  unfold Operand.put; repeat' split
  all_goals rfl
@[simp] theorem Operand.put_runState : (o.put s r).runState = s.runState := by
  unfold Operand.put; repeat' split
  all_goals rfl
@[simp] theorem Operand.put_decPending : (o.put s r).decPending = s.decPending := by
  unfold Operand.put; repeat' split
  all_goals rfl
@[simp] theorem Operand.put_oldI : (o.put s r).oldI = s.oldI := by
  unfold Operand.put; repeat' split
  all_goals rfl
@[simp] theorem Operand.put_draws : (o.put s r).draws = s.draws := by
  unfold Operand.put; repeat' split
  all_goals rfl
@[simp] theorem Operand.put_cfg : (o.put s r).cfg = s.cfg := by
  unfold Operand.put; repeat' split
  all_goals rfl
@[simp] theorem Operand.put_kindAt (q : Word) : (o.put s r).kindAt q = s.kindAt q := by
  unfold Operand.put; repeat' split
  all_goals rfl
@[simp] theorem Operand.put_flag (g : Flag) : (o.put s r).flag g = s.flag g := by
  unfold Operand.put; repeat' split
  all_goals rfl

end Sys2Proof.Machine
end

