-- ==== Sys2Proof/Laws/Flags.lean ====
section
/-! SUPPORT. What the flag updates leave in each flag. -/

namespace Sys2Proof.Machine

variable (s : State)

/-- Writing one flag: that flag, and the other seven as before. -/
@[simp] theorem State.flag_setFlag (f g : Flag) (b : Bool) :
    (s.setFlag f b).flag g = if g = f then b else s.flag g := by
  simp [State.flag, bitOf_setBit, Flag.index_inj]

/-- `setNZ(v)` writes Z and N and no other flag. -/
@[simp] theorem State.flag_setNZ (v : Byte) (g : Flag) :
    (s.setNZ v).flag g = if g = .z then v == 0#8 else if g = .n then bitOf v 7 else s.flag g := by
  simp [State.setNZ]

/-- ADC and SBC write Z, N, V and C and no other flag. -/
@[simp] theorem State.flag_setArith (r : AluResult) (g : Flag) :
    (s.setArith r).flag g =
      if g = .z then r.z else if g = .n then r.n else if g = .v then r.v else if g = .c then r.c else s.flag g := by
  simp [State.setArith]

/-- A comparison writes N, Z and C and no other flag. -/
@[simp] theorem State.flag_setCompare (r : CompareResult) (g : Flag) :
    (s.setCompare r).flag g = if g = .n then r.n else if g = .z then r.z else if g = .c then r.c else s.flag g := by
  simp [State.setCompare]

/-- The sign bit of a byte. -/
theorem bitOf_seven (v : Byte) : bitOf v 7 = decide (v.toNat ≥ 128) := by
  have : v.msb = bitOf v 7 := by simp [bitOf, BitVec.msb_eq_getLsbD_last]
  rw [← this, BitVec.msb_eq_decide]

/-- Flags equal to those `setNZ(v)` leaves show `v`. -/
theorem showsNZ_of_flags {v : Byte} {t : State} (hn : t.flag .n = bitOf v 7) (hz : t.flag .z = (v == 0#8)) :
    ShowsNZ v t := by
  constructor
  · rw [hn, bitOf_seven]; simp
  · rw [hz]; simp [BitVec.toNat_eq]

/-- Writing a byte as the eight flags: a status byte is determined by its flags. -/
theorem ps_eq_of_flags {p q : Byte} (h : ∀ f : Flag, bitOf p f.index = bitOf q f.index) : p = q := by
  apply BitVec.eq_of_getLsbD_eq
  intro i hi
  have : i = 0 ∨ i = 1 ∨ i = 2 ∨ i = 3 ∨ i = 4 ∨ i = 5 ∨ i = 6 ∨ i = 7 := by omega
  rcases this with rfl | rfl | rfl | rfl | rfl | rfl | rfl | rfl
  exacts [h .c, h .z, h .i, h .d, h .b, h .t, h .v, h .n]

end Sys2Proof.Machine
end

