-- ==== Sys2Proof/Laws/Memory.lean ====
section
/-! SUPPORT. Memory: a read after a write, and the canonical form. -/

namespace Sys2Proof.Machine

/-- A lookup after a store: the byte stored at that address, and what it was at every other. -/
theorem Memory.lookup_store (m : Memory) (a b : Nat) (v : Byte) :
    Memory.lookup (Memory.store m a v) b = if b = a then some v else Memory.lookup m b := by
  induction m with
  | nil => simp [Memory.store, Memory.lookup]
  | cons c rest ih =>
    obtain ⟨p, w⟩ := c
    unfold Memory.store
    split
    · simp [Memory.lookup]
    · split
      · rename_i _ he
        subst he
        simp only [Memory.lookup]
        split <;> simp_all
      · simp only [Memory.lookup, ih]
        by_cases hb : b = p
        · have : b ≠ a := by omega
          simp [hb]; omega
        · simp [hb]

/-- Every address listed after a store is the one stored to or was listed before. -/
theorem Memory.mem_store {m : Memory} {a : Nat} {v : Byte} {c : Host.Cell} (h : c ∈ Memory.store m a v) :
    c = (a, v) ∨ c ∈ m := by
  induction m with
  | nil => simpa [Memory.store] using h
  | cons d rest ih =>
    obtain ⟨p, w⟩ := d
    unfold Memory.store at h
    split at h
    · simpa using h
    · split at h
      · simp only [List.mem_cons] at h ⊢; tauto
      · simp only [List.mem_cons] at h ⊢; tauto

/-- A store keeps the canonical form. -/
theorem Memory.store_wf {m : Memory} {a : Nat} (v : Byte) (hm : Memory.wf m) (ha : a < 65536) :
    Memory.wf (Memory.store m a v) := by
  refine ⟨?_, fun c hc => ?_⟩
  · obtain ⟨h, -⟩ := hm
    induction m with
    | nil => simp [Memory.store]
    | cons d rest ih =>
      obtain ⟨p, w⟩ := d
      rw [List.pairwise_cons] at h
      unfold Memory.store
      split
      · rename_i hlt
        refine List.pairwise_cons.2 ⟨fun c hc => ?_, List.pairwise_cons.2 h⟩
        rcases List.mem_cons.1 hc with rfl | hc
        · exact hlt
        · exact Nat.lt_trans hlt (h.1 c hc)
      · split
        · rename_i he
          subst he
          exact List.pairwise_cons.2 h
        · refine List.pairwise_cons.2 ⟨fun c hc => ?_, ih h.2⟩
          rcases Memory.mem_store hc with rfl | hc
          · simp only; omega
          · exact h.1 c hc
  · rcases Memory.mem_store hc with rfl | hc
    · exact ha
    · exact hm.2 c hc

theorem Memory.nil_wf : Memory.wf [] := by decide

/-- Reading after a write: RAM returns the byte written; everything else reads as before (R71, R73). -/
theorem State.read_write (s : State) (a b : Word) (v : Byte) (k : Access) :
    (s.write a v).read k b = if b = a ∧ s.kindAt a = .ram then v else s.read k b := by
  by_cases hk : s.kindAt a = .ram
  · have hw : (s.write a v).mem = Memory.store s.mem a.toNat v := by simp [State.write, hk]
    by_cases hb : b = a
    · subst hb
      simp [State.read, hw, hk, Memory.lookup_store]
    · have hn : ¬ b.toNat = a.toNat := fun h => hb (BitVec.eq_of_toNat_eq h)
      simp [State.read, hw, hb, hn, Memory.lookup_store]
  · have hw : (s.write a v).mem = s.mem := by
      simp only [State.write]
      cases h : s.kindAt a <;> simp_all
    simp [State.read, hw, hk]

/-- A write changes no byte but the one it writes. -/
@[simp] theorem State.read_write_ne {s : State} {a b : Word} (v : Byte) (k : Access) (h : b ≠ a) :
    (s.write a v).read k b = s.read k b := by
  simp [State.read_write, h]

/-- A byte reads the same in two states with the same memory, parameters and draw counter. -/
theorem State.read_congr {s t : State} (hm : t.mem = s.mem) (hc : t.cfg = s.cfg) (hd : t.draws = s.draws)
    (k : Access) (a : Word) : t.read k a = s.read k a := by
  simp [State.read, State.kindAt, hm, hc, hd]

/-- A write keeps the canonical form of memory. -/
theorem State.write_wf {s : State} (a : Word) (v : Byte) (h : Memory.wf s.mem) : Memory.wf (s.write a v).mem := by
  simp only [State.write]
  split
  · exact Memory.store_wf v h a.isLt
  all_goals exact h

/-- A push writes at the stack address and nowhere else (R27). -/
theorem State.read_push8 (s : State) (v : Byte) (k : Access) (b : Word) :
    (s.push8 v).read k b = if b = s.stackAddr s.sp ∧ s.kindAt b = .ram then v else s.read k b := by
  have h : (s.push8 v).read k b = (s.write (s.stackAddr s.sp) v).read k b := rfl
  rw [h, State.read_write]
  by_cases hb : b = s.stackAddr s.sp
  · subst hb; rfl
  · simp [hb]

theorem State.push8_wf {s : State} (v : Byte) (h : Memory.wf s.mem) : Memory.wf (s.push8 v).mem :=
  State.write_wf (s := s) _ v h

/-- Loading a byte from outside keeps the canonical form. -/
theorem State.load_wf {s : State} (a : Word) (v : Byte) (h : Memory.wf s.mem) : Memory.wf (s.load a v).mem :=
  Memory.store_wf v h a.isLt

end Sys2Proof.Machine
end

