-- ==== Sys2Proof/Laws/Ops.lean ====
section
/-! SUPPORT. One lemma for each shared operation that says once what it does. -/

namespace Sys2Proof.Machine

variable (s : State)

/-- A T-aware result goes to A when T is 0 (R180). -/
theorem State.writeResult_clear {s : State} (r : Byte) (h : s.flag .t = false) :
    s.writeResult r = s.setA r := by simp [State.writeResult, h]

/-- A T-aware result goes to M(X) when T is 1 (R180). -/
theorem State.writeResult_set {s : State} (r : Byte) (h : s.flag .t = true) :
    s.writeResult r = s.write (zeroPage s.x) r := by simp [State.writeResult, h]

/-- A memory operand is written at its effective address. -/
theorem Operand.put_mem {o : Operand} {s : State} {a : Word} (h : o.ea s = some a) (v : Byte) :
    o.put s v = s.write a v := by simp [Operand.put, h]

/-- A memory operand is read at its effective address. -/
theorem Operand.value_mem {o : Operand} {s : State} {a : Word} (h : o.ea s = some a) :
    o.value s = s.read .operand a := by simp [Operand.value, h]

@[simp] theorem Operand.value_imm (v : Byte) : (Operand.imm v).value s = v := rfl
@[simp] theorem Operand.value_acc : Operand.acc.value s = s.a := rfl
@[simp] theorem Operand.put_acc (v : Byte) : Operand.acc.put s v = s.setA v := rfl

/-- Writing an operand keeps the canonical form of memory. -/
theorem Operand.put_wf {s : State} (o : Operand) (v : Byte) (h : Memory.wf s.mem) : Memory.wf (o.put s v).mem := by
  unfold Operand.put
  repeat' split
  exacts [State.write_wf _ _ h, h, h]

/-- A T-aware result keeps the canonical form of memory. -/
theorem State.writeResult_wf {s : State} (r : Byte) (h : Memory.wf s.mem) : Memory.wf (s.writeResult r).mem := by
  unfold State.writeResult
  split
  exacts [State.write_wf _ _ h, h]

/-- A word pushed keeps the canonical form of memory. -/
theorem State.pushWord_wf {s : State} (w : Word) (h : Memory.wf s.mem) : Memory.wf (s.pushWord w).mem :=
  State.push8_wf _ (State.push8_wf _ h)

/-- Two different stack pointers are two different stack addresses. -/
@[simp] theorem State.stackAddr_inj (p q : Byte) : s.stackAddr p = s.stackAddr q ↔ p = q := by
  simp [State.stackAddr, mkWord_inj]

/-! ### Several pushes -/

@[simp] theorem State.pushAll_nil : s.pushAll [] = s := rfl
@[simp] theorem State.pushAll_cons (v : Byte) (rest : List Byte) :
    s.pushAll (v :: rest) = (s.push8 v).pushAll rest := rfl

/-- Pushes one after another keep the canonical form of memory. -/
theorem State.pushAll_wf {s : State} (bytes : List Byte) (h : Memory.wf s.mem) : Memory.wf (s.pushAll bytes).mem := by
  induction bytes generalizing s with
  | nil => exact h
  | cons v rest ih => exact ih (State.push8_wf v h)

/-- Pushes change no parameter and draw nothing. -/
@[simp] theorem State.pushAll_cfg (bytes : List Byte) : (s.pushAll bytes).cfg = s.cfg := by
  induction bytes generalizing s with
  | nil => rfl
  | cons v rest ih => simp [ih]

@[simp] theorem State.pushAll_draws (bytes : List Byte) : (s.pushAll bytes).draws = s.draws := by
  induction bytes generalizing s with
  | nil => rfl
  | cons v rest ih => simp [ih]

/-! ### Interrupt entry and return -/

section
variable (b : Bool) (ret v : Word)

/-- The interrupt sequence written out: the word, PS, I, the vector. -/
theorem State.enterInterrupt_eq :
    s.enterInterrupt b ret v =
      let s2 := (((s.setFlag .b b).pushWord ret).push8 (s.setFlag .b b).ps).setFlag .i true
      (s2.goto (s2.vectorTarget v)).setRunState .running := rfl

/-- The memory the interrupt sequence leaves is that of its three pushes (R326). -/
theorem State.enterInterrupt_mem :
    (s.enterInterrupt b ret v).mem = (s.pushAll (s.entryBytes b ret)).mem := rfl

@[simp] theorem State.enterInterrupt_a : (s.enterInterrupt b ret v).a = s.a := by simp [State.enterInterrupt_eq]
@[simp] theorem State.enterInterrupt_x : (s.enterInterrupt b ret v).x = s.x := by simp [State.enterInterrupt_eq]
@[simp] theorem State.enterInterrupt_y : (s.enterInterrupt b ret v).y = s.y := by simp [State.enterInterrupt_eq]
@[simp] theorem State.enterInterrupt_sp : (s.enterInterrupt b ret v).sp = s.sp - 1 - 1 - 1 := by simp [State.enterInterrupt_eq]
@[simp] theorem State.enterInterrupt_pending : (s.enterInterrupt b ret v).pending = s.pending := by simp [State.enterInterrupt_eq]
@[simp] theorem State.enterInterrupt_enabled : (s.enterInterrupt b ret v).enabled = s.enabled := by simp [State.enterInterrupt_eq]
@[simp] theorem State.enterInterrupt_runState : (s.enterInterrupt b ret v).runState = .running := by simp [State.enterInterrupt_eq]
@[simp] theorem State.enterInterrupt_decPending : (s.enterInterrupt b ret v).decPending = false := by simp [State.enterInterrupt_eq]
@[simp] theorem State.enterInterrupt_oldI : (s.enterInterrupt b ret v).oldI = none := by simp [State.enterInterrupt_eq]
@[simp] theorem State.enterInterrupt_draws : (s.enterInterrupt b ret v).draws = s.draws := by simp [State.enterInterrupt_eq]
@[simp] theorem State.enterInterrupt_cfg : (s.enterInterrupt b ret v).cfg = s.cfg := by simp [State.enterInterrupt_eq]
@[simp] theorem State.enterInterrupt_kindAt (q : Word) : (s.enterInterrupt b ret v).kindAt q = s.kindAt q := by
  simp [State.enterInterrupt_eq]
@[simp] theorem State.enterInterrupt_stackAddr (q : Byte) :
    (s.enterInterrupt b ret v).stackAddr q = s.stackAddr q := by simp [State.enterInterrupt_eq]

/-- Entry writes B and sets I, and no other flag (R326, R327). -/
@[simp] theorem State.flag_enterInterrupt (g : Flag) :
    (s.enterInterrupt b ret v).flag g = if g = .i then true else if g = .b then b else s.flag g := by
  simp [State.enterInterrupt_eq]

/-- What memory holds after entry (R328): PCH, PCL and PS with B, from the old stack pointer down. -/
theorem State.read_enterInterrupt (k : Access) (q : Word) :
    (s.enterInterrupt b ret v).read k q =
      if s.kindAt q = .ram then
        if q = s.stackAddr (s.sp - 1 - 1) then (s.setFlag .b b).ps
        else if q = s.stackAddr (s.sp - 1) then lowByte ret
        else if q = s.stackAddr s.sp then highByte ret
        else s.read k q
      else s.read k q := by
  simp only [State.enterInterrupt_eq, State.pushWord, pushOrder, State.pushAll, State.setRunState_read,
    State.goto_read, State.setFlag_read, State.read_push8, State.push8_kindAt, State.push8_stackAddr, State.push8_sp,
    State.setFlag_kindAt, State.setFlag_stackAddr, State.setFlag_sp]
  by_cases hk : s.kindAt q = .ram <;> simp [hk]

/-- The PC after entry is read from the vector after the pushes (R326). -/
theorem State.enterInterrupt_pc : (s.enterInterrupt b ret v).pc = (s.enterInterrupt b ret v).vectorTarget v := by
  simp [State.enterInterrupt_eq, State.vectorTarget]

theorem State.enterInterrupt_wf {s : State} (b : Bool) (ret v : Word) (h : Memory.wf s.mem) :
    Memory.wf (s.enterInterrupt b ret v).mem := by
  rw [State.enterInterrupt_mem]
  exact State.pushAll_wf _ h

end

@[simp] theorem State.returnFromInterrupt_a : s.returnFromInterrupt.a = s.a := by
  simp [State.returnFromInterrupt]
@[simp] theorem State.returnFromInterrupt_x : s.returnFromInterrupt.x = s.x := by
  simp [State.returnFromInterrupt]
@[simp] theorem State.returnFromInterrupt_y : s.returnFromInterrupt.y = s.y := by
  simp [State.returnFromInterrupt]
@[simp] theorem State.returnFromInterrupt_sp : s.returnFromInterrupt.sp = s.sp + 1 + 1 + 1 := by
  simp [State.returnFromInterrupt]
@[simp] theorem State.returnFromInterrupt_ps : s.returnFromInterrupt.ps = s.pulled := by
  simp [State.returnFromInterrupt]
@[simp] theorem State.returnFromInterrupt_mem : s.returnFromInterrupt.mem = s.mem := by
  simp [State.returnFromInterrupt]
@[simp] theorem State.returnFromInterrupt_pending : s.returnFromInterrupt.pending = s.pending := by
  simp [State.returnFromInterrupt]
@[simp] theorem State.returnFromInterrupt_enabled : s.returnFromInterrupt.enabled = s.enabled := by
  simp [State.returnFromInterrupt]
@[simp] theorem State.returnFromInterrupt_runState : s.returnFromInterrupt.runState = s.runState := by
  simp [State.returnFromInterrupt]
@[simp] theorem State.returnFromInterrupt_decPending : s.returnFromInterrupt.decPending = false := by
  simp [State.returnFromInterrupt]
@[simp] theorem State.returnFromInterrupt_oldI : s.returnFromInterrupt.oldI = some (s.flag .i) := by
  simp [State.returnFromInterrupt]
@[simp] theorem State.returnFromInterrupt_draws : s.returnFromInterrupt.draws = s.draws := by
  simp [State.returnFromInterrupt]
@[simp] theorem State.returnFromInterrupt_cfg : s.returnFromInterrupt.cfg = s.cfg := by
  simp [State.returnFromInterrupt]
@[simp] theorem State.returnFromInterrupt_read (k : Access) (q : Word) :
    s.returnFromInterrupt.read k q = s.read k q := by simp [State.returnFromInterrupt]
theorem State.returnFromInterrupt_pc :
    s.returnFromInterrupt.pc =
      mkWord (s.read .stack (s.stackAddr (s.sp + 1 + 1 + 1))) (s.read .stack (s.stackAddr (s.sp + 1 + 1))) := by
  simp [State.returnFromInterrupt, State.pulledWord, State.pulled]

/-! ### What a step can do -/

/-- A request that is accepted qualifies, is let through by I, and no request of higher priority qualifies. -/
theorem State.acceptedRequest_some {s : State} {k : Nat} (h : s.acceptedRequest = some k) :
    s.irqOpen = true ∧ s.qualifying.head? = some k := by
  unfold State.acceptedRequest at h
  split at h
  · cases h
  · rename_i j rest hq
    split at h
    · rename_i hc
      cases h
      simp_all
    · cases h

/-- What the next state of a step can be: an interrupt entry, an instruction's, or an idle moment's. -/
theorem step_cases {s t : State} (h : step s = .next t) :
    (∃ k, s.acceptedRequest = some k ∧ t = (s.interruptEntry k).tick) ∨
    (∃ i u, s.acceptedRequest = none ∧ s.runState = .running ∧ s.fetchInstr = some i ∧ exec i s = .next u ∧
      t = u.tick) ∨
    (s.acceptedRequest = none ∧ s.runState ≠ .running ∧ t = s.tick) := by
  unfold step cpuStep at h
  split at h
  · rename_i k hk
    cases h
    exact .inl ⟨k, hk, rfl⟩
  · rename_i hk
    split at h
    · rename_i hr
      unfold runInstr at h
      split at h
      · rename_i i hi
        cases he : exec i s with
        | next u =>
          rw [he] at h
          cases h
          exact .inr (.inl ⟨i, u, hk, hr, hi, he, rfl⟩)
        | fault r => exact nomatch r
        | refused r => rw [he] at h; cases h
      · cases h
    all_goals
      rename_i hr
      cases h
      exact .inr (.inr ⟨hk, by simp [hr], rfl⟩)

end Sys2Proof.Machine
end

