-- ==== Sys2Proof/Laws/Environment.lean ====
section
/-! SUPPORT. Hardware reset, and the stores of an instruction it can cut short: why `cutShort` covers every prefix. -/

namespace Sys2Proof.Machine

set_option Elab.async false

/-! ### Hardware reset between two steps -/

section
variable (s : State)

@[simp] theorem State.hardwareReset_mem : s.hardwareReset.mem = s.mem := rfl
@[simp] theorem State.hardwareReset_cfg : s.hardwareReset.cfg = s.cfg := rfl
@[simp] theorem State.hardwareReset_pc : s.hardwareReset.pc = s.vectorTarget s.cfg.resetVector := rfl
@[simp] theorem State.hardwareReset_runState : s.hardwareReset.runState = .running := rfl
@[simp] theorem State.hardwareReset_decPending : s.hardwareReset.decPending = false := rfl
@[simp] theorem State.hardwareReset_oldI : s.hardwareReset.oldI = none := rfl
@[simp] theorem State.hardwareReset_draws : s.hardwareReset.draws = s.draws + 1 := rfl
@[simp] theorem State.hardwareReset_pending : s.hardwareReset.pending = s.pending.map fun _ => false := rfl
@[simp] theorem State.hardwareReset_enabled : s.hardwareReset.enabled = s.enabled.map fun _ => false := rfl
@[simp] theorem State.hardwareReset_flag_i : s.hardwareReset.flag .i = true := by
  simp [State.hardwareReset, State.flag, bitOf_setBit]

end

/-! ### How many stores an instruction makes -/

/-- The step from `s` to `t` makes one store or none. -/
def StoresAtMostOne (s t : State) : Prop := ∃ a v, t.mem = s.mem ∨ t.mem = (s.write a v).mem

theorem StoresAtMostOne.none {s t u : State} (h : (.next u : Result) = .next t) (hm : u.mem = s.mem) :
    StoresAtMostOne s t := by
  cases h
  exact ⟨0, 0, .inl hm⟩

theorem StoresAtMostOne.one {s t u : State} {a : Word} {v : Byte} (h : (.next u : Result) = .next t)
    (hm : u.mem = (s.write a v).mem) : StoresAtMostOne s t := by
  cases h
  exact ⟨a, v, .inr hm⟩

/-- A T-aware result is one store or none (R180). -/
theorem StoresAtMostOne.writeResult {s t u : State} {r : Byte} (h : (.next u : Result) = .next t)
    (hm : u.mem = (s.writeResult r).mem) : StoresAtMostOne s t := by
  cases ht : s.flag .t
  · exact .none h (by rw [hm, State.writeResult_clear r ht, State.setA_mem])
  · exact .one h (by rw [hm, State.writeResult_set r ht])

/-- An operand written back is one store or none (R210). -/
theorem StoresAtMostOne.put {s t u : State} {o : Operand} {r : Byte} (h : (.next u : Result) = .next t)
    (hm : u.mem = (o.put s r).mem) : StoresAtMostOne s t := by
  cases ho : o.ea s with
  | some a => exact .one h (by rw [hm, Operand.put_mem ho])
  | none =>
    refine .none h ?_
    rw [hm]
    cases o <;> first | rfl | cases ho

section
variable {s t : State} {o : Operand}

theorem storesOne_opLda (h : opLda o s = .next t) : StoresAtMostOne s t := .writeResult h rfl
theorem storesOne_opLdx (h : opLdx o s = .next t) : StoresAtMostOne s t := .none h rfl
theorem storesOne_opLdy (h : opLdy o s = .next t) : StoresAtMostOne s t := .none h rfl
theorem storesOne_opStore {v : Byte} (h : opStore v o s = .next t) : StoresAtMostOne s t := .put h rfl
theorem storesOne_opAddSub {bin : Byte → Byte → Bool → AluResult} {dec : Nat → Byte → Byte → Bool → AluResult}
    (h : opAddSub bin dec o s = .next t) : StoresAtMostOne s t := by
  simp only [opAddSub] at h
  generalize (if s.flag .d then _ else _ : AluResult) = r at h
  refine StoresAtMostOne.writeResult (r := r.result) h ?_
  simp only [State.setDecPending_mem, State.advance_mem, State.setArith_mem]

theorem storesOne_opAdc (h : opAdc o s = .next t) : StoresAtMostOne s t := storesOne_opAddSub h
theorem storesOne_opSbc (h : opSbc o s = .next t) : StoresAtMostOne s t := storesOne_opAddSub h
theorem storesOne_opInc (h : opInc o s = .next t) : StoresAtMostOne s t := .put h rfl
theorem storesOne_opDec (h : opDec o s = .next t) : StoresAtMostOne s t := .put h rfl
theorem storesOne_opCompare {v : Byte} (h : opCompare v o s = .next t) : StoresAtMostOne s t := .none h rfl
theorem storesOne_opLogic {f : Byte → Byte → Byte}
    (h : opLogic f o s = .next t) : StoresAtMostOne s t := .writeResult h rfl
theorem storesOne_opAnd (h : opAnd o s = .next t) : StoresAtMostOne s t := storesOne_opLogic h
theorem storesOne_opOra (h : opOra o s = .next t) : StoresAtMostOne s t := storesOne_opLogic h
theorem storesOne_opEor (h : opEor o s = .next t) : StoresAtMostOne s t := storesOne_opLogic h
theorem storesOne_opBit (h : opBit o s = .next t) : StoresAtMostOne s t := .none h rfl
theorem storesOne_opShift {g : Byte → Bool → Byte × Bool}
    (h : opShift g o s = .next t) : StoresAtMostOne s t := .put h rfl
theorem storesOne_opWriteBit {b : BitNo} {w : Bool}
    (h : opWriteBit b w o s = .next t) : StoresAtMostOne s t := .put h rfl
theorem storesOne_opSetFlag {fl : Flag} {w : Bool}
    (h : opSetFlag fl w s = .next t) : StoresAtMostOne s t := .none h rfl
theorem storesOne_opSetI {w : Bool} (h : opSetI w s = .next t) : StoresAtMostOne s t := .none h rfl

theorem storesOne_opSetFlagAfterDecimal {fl : Flag} {w : Bool} (h : opSetFlagAfterDecimal fl w s = .next t) :
    StoresAtMostOne s t := by
  unfold opSetFlagAfterDecimal at h
  split at h <;> exact .none h rfl

theorem storesOne_opBranch {taken : Bool} {n : Nat} {d : Byte} (h : opBranch taken n d s = .next t) :
    StoresAtMostOne s t := by
  unfold opBranch at h
  exact .none h (by split <;> rfl)

theorem storesOne_opBranchBit {b : BitNo} {w : Bool} {n : Nat} {d : Byte} (h : opBranchBit b w o n d s = .next t) :
    StoresAtMostOne s t := storesOne_opBranch h

theorem storesOne_opSuspend {r : RunState} {op : Byte} (h : opSuspend r op s = .next t) : StoresAtMostOne s t := by
  unfold opSuspend at h
  split at h
  · exact .none h rfl
  · cases h

theorem storesOne_jmpInd {w : Word} (h : execJmpInd w s = .next t) : StoresAtMostOne s t := by
  unfold execJmpInd at h
  split at h
  · cases h
  · exact .none h rfl

theorem storesOne_opMul {zz : Byte} (h : opMul zz s = .next t) : StoresAtMostOne s t := by
  unfold opMul at h
  split at h
  · exact .one h rfl
  · cases h

theorem storesOne_opDiv {zz : Byte} (h : opDiv zz s = .next t) : StoresAtMostOne s t := by
  unfold opDiv at h
  split at h
  · dsimp only at h
    split at h
    · cases h
    · exact .one h rfl
  · cases h

end

/-- Every instruction but BRK and JSR makes one store or none (R70), so it is cut short before its store or after it. -/
theorem storesAtMostOne {i : Instr} {s t : State} (hp : pushSequence i s = []) (h : exec i s = .next t) :
    StoresAtMostOne s t := by
  cases i
  case tax | txa | tay | tya | tsx | txs | pla | plp | nop | inx | dex | iny | dey | tstZp | jmpAbs | jmpZpind |
      bra | rts | rti => exact .none h rfl
  case pha | php => exact .one h rfl
  case ldm | comZp | rrfZp => exact .one h rfl
  case jmpInd => exact storesOne_jmpInd h
  case adcIndx | adcZp | adcImm | adcAbs | adcIndy | adcZpx | adcAbsy | adcAbsx => exact storesOne_opAdc h
  case andIndx | andZp | andImm | andAbs | andIndy | andZpx | andAbsy | andAbsx => exact storesOne_opAnd h
  case bitZp | bitAbs => exact storesOne_opBit h
  case bcc | bcs | bne | beq | bpl | bmi | bvc | bvs => exact storesOne_opBranch h
  case bbcAcc | bbcZp | bbsAcc | bbsZp => exact storesOne_opBranchBit h
  case cmpIndx | cmpZp | cmpImm | cmpAbs | cmpIndy | cmpZpx | cmpAbsy | cmpAbsx | cpxImm | cpxZp | cpxAbs |
      cpyImm | cpyZp | cpyAbs => exact storesOne_opCompare h
  case decAcc | decZp | decAbs | decZpx | decAbsx => exact storesOne_opDec h
  case divZpx => exact storesOne_opDiv h
  case eorIndx | eorZp | eorImm | eorAbs | eorIndy | eorZpx | eorAbsy | eorAbsx => exact storesOne_opEor h
  case incAcc | incZp | incAbs | incZpx | incAbsx => exact storesOne_opInc h
  case jsrZpind | jsrAbs | jsrSp | brk => cases hp
  case ldaIndx | ldaZp | ldaImm | ldaAbs | ldaIndy | ldaZpx | ldaAbsy | ldaAbsx => exact storesOne_opLda h
  case ldxImm | ldxZp | ldxAbs | ldxZpy | ldxAbsy => exact storesOne_opLdx h
  case ldyImm | ldyZp | ldyAbs | ldyZpx | ldyAbsx => exact storesOne_opLdy h
  case mulZpx => exact storesOne_opMul h
  case oraIndx | oraZp | oraImm | oraAbs | oraIndy | oraZpx | oraAbsy | oraAbsx => exact storesOne_opOra h
  case sbcIndx | sbcZp | sbcImm | sbcAbs | sbcIndy | sbcZpx | sbcAbsy | sbcAbsx => exact storesOne_opSbc h
  case sed | clt | set | clv => exact storesOne_opSetFlag h
  case clc | sec | cld => exact storesOne_opSetFlagAfterDecimal h
  case cli | sei => exact storesOne_opSetI h
  case aslZp | aslAcc | aslAbs | aslZpx | aslAbsx | lsrZp | lsrAcc | lsrAbs | lsrZpx | lsrAbsx | rolZp | rolAcc |
      rolAbs | rolZpx | rolAbsx | rorZp | rorAcc | rorAbs | rorZpx | rorAbsx => exact storesOne_opShift h
  case staIndx | staZp | staAbs | staIndy | staZpx | staAbsy | staAbsx | stxZp | stxAbs | stxZpy | styZp | styAbs |
      styZpx => exact storesOne_opStore h
  case wit | stp => exact storesOne_opSuspend h
  case clbAcc | clbZp | sebAcc | sebZp => exact storesOne_opWriteBit h

/-! ### What a reset in the middle of a step leaves -/

/-- An instruction cut short before its first store leaves memory as it was (R362). -/
theorem cutShort_zero {i : Instr} {s t : State} (h : exec i s = .next t) :
    ∃ u, cutShort 0 i s = .next u ∧ u.mem = s.mem ∧ u.cfg = s.cfg ∧ u.draws = s.draws := by
  unfold cutShort
  rw [h]
  cases pushSequence i s <;> exact ⟨_, rfl, rfl, rfl, rfl⟩

/-- BRK and JSR cut short: the first `n` of their bytes are pushed (R300, R273, R362). -/
theorem cutShort_push {i : Instr} {s t : State} {n : Nat} (h : exec i s = .next t) (hp : pushSequence i s ≠ []) :
    cutShort n i s = .next (s.pushAll ((pushSequence i s).take n)) := by
  unfold cutShort
  rw [h]
  cases hq : pushSequence i s with
  | nil => exact absurd hq hp
  | cons v rest => rfl

/-- Any other instruction cut short behind its store leaves the memory it would leave (R70, R362). -/
theorem cutShort_done {i : Instr} {s t : State} {n : Nat} (h : exec i s = .next t) (hp : pushSequence i s = [])
    (hn : n ≠ 0) : cutShort n i s = .next t := by
  simp [cutShort, h, hp, hn]

/-- The pushes of BRK and JSR are all they store: with each of them done, memory is what the whole instruction leaves. -/
theorem pushSequence_mem {i : Instr} {s t : State} (hp : pushSequence i s ≠ []) (h : exec i s = .next t) :
    t.mem = (s.pushAll (pushSequence i s)).mem := by
  cases i
  case brk | jsrAbs | jsrSp | jsrZpind => cases h; rfl
  all_goals exact absurd rfl hp

/-- Reset in the middle of an interrupt entry: the first `n` of its three bytes are pushed (R326, R362). -/
theorem State.resetDuring_entry {s : State} {k n : Nat} (h : s.acceptedRequest = some k) :
    s.resetDuring n = .next (s.pushAll ((s.entryBytes false s.pc).take n)).hardwareReset := by
  simp only [State.resetDuring, h]

/-- Reset in the middle of an instruction (R360, R362). -/
theorem State.resetDuring_instr {s : State} {i : Instr} {n : Nat} (ha : s.acceptedRequest = none)
    (hr : s.runState = .running) (hf : s.fetchInstr = some i) :
    s.resetDuring n = resetResult (cutShort n i s) := by
  simp only [State.resetDuring, ha, hr, hf]

/-- Reset of a waiting or stopped CPU (R360). -/
theorem State.resetDuring_idle {s : State} {n : Nat} (ha : s.acceptedRequest = none) (hr : s.runState ≠ .running) :
    s.resetDuring n = .next s.hardwareReset := by
  unfold State.resetDuring
  rw [ha]
  cases h : s.runState <;> first | rfl | exact absurd h hr

end Sys2Proof.Machine
end

