-- ==== Sys2Proof/Laws/Frames.lean ====
section
/-! SUPPORT. The frames of the shared operations: what a T-aware result, an operand written back, an interrupt entry and
a loaded byte leave. -/

namespace Sys2Proof.Machine

/-! ### Numbers -/

/-- Bit `i` of a byte as a digit of its number. -/
theorem bitOf_eq_digit (v : Byte) (i : Nat) : bitOf v i = decide (v.toNat / 2 ^ i % 2 = 1) := by
  simp [bitOf, BitVec.getLsbD, Nat.testBit_eq_decide_div_mod_eq]

/-- The signed reading of a byte (R10). -/
theorem toInt_eq_signed8 (v : Byte) : v.toInt = if v.toNat < 128 then (v.toNat : Int) else v.toNat - 256 := by
  rw [BitVec.toInt_eq_toNat_cond]
  have := v.isLt
  split <;> split <;> omega

theorem isWord_mkWord (hi lo : Byte) : IsWord (mkWord hi lo) hi lo := by
  simp [IsWord, toNat_mkWord, Nat.mul_comm]

theorem isWord_split (w : Word) : IsWord w (highByte w) (lowByte w) := by
  have := isWord_mkWord (highByte w) (lowByte w)
  rwa [mkWord_highByte_lowByte] at this

/-! ### Results written back -/

/-- An update that leaves the data registers, the system state and memory alone and writes at most the flags `fs`. -/
structure FlagsOnly (fs : List Flag) (f : State → State) : Prop where
  a : ∀ u, (f u).a = u.a
  x : ∀ u, (f u).x = u.x
  y : ∀ u, (f u).y = u.y
  sp : ∀ u, (f u).sp = u.sp
  system : ∀ u, KeepsSystem u (f u)
  flags : ∀ u, KeepsFlags fs u (f u)
  mem : ∀ u k q, (f u).read k q = u.read k q

/-- A T-aware result followed by an update of flags. -/
theorem FlagsOnly.tResult {fs : List Flag} {f : State → State} (hf : FlagsOnly fs f) (s : State) (r : Byte) :
    TResult r fs s (f (s.writeResult r)) := by
  have hsys := hf.system (s.writeResult r)
  simp only [KeepsSystem, State.writeResult_pending, State.writeResult_enabled, State.writeResult_runState,
    State.writeResult_cfg] at hsys
  have hfl : KeepsFlags fs s (f (s.writeResult r)) := fun g hg => by rw [hf.flags _ g hg]; simp
  constructor
  · intro h
    rw [State.writeResult_clear r h] at *
    refine ⟨by simp [hf.a], fun g hg => ?_, hfl, fun k a _ => by simp [hf.mem], hsys⟩
    cases g <;> simp_all [State.reg, hf.x, hf.y, hf.sp]
  · intro h
    rw [State.writeResult_set r h] at *
    refine ⟨fun k => by simp [hf.mem, State.read_write], fun g _ => ?_, hfl, fun k a ha => ?_, hsys⟩
    · cases g <;> simp [State.reg, hf.a, hf.x, hf.y, hf.sp]
    · simp only [List.mem_singleton] at ha
      simp [hf.mem, ha]

/-- An operand written back, followed by an update of flags. No instruction has an immediate destination (R121). -/
theorem FlagsOnly.writesBack {fs : List Flag} {f : State → State} (hf : FlagsOnly fs f) {o : Operand}
    (ho : ∀ v, o ≠ .imm v) (s : State) (r : Byte) : WritesBack o r fs s (f (o.put s r)) := by
  have hsys := hf.system (o.put s r)
  simp only [KeepsSystem, Operand.put_pending, Operand.put_enabled, Operand.put_runState, Operand.put_cfg] at hsys
  have hfl : KeepsFlags fs s (f (o.put s r)) := fun g hg => by rw [hf.flags _ g hg]; simp
  constructor
  · intro a h
    rw [Operand.put_mem h] at *
    refine ⟨fun k => by simp [hf.mem, State.read_write], fun g _ => ?_, hfl, fun k b hb => ?_, hsys⟩
    · cases g <;> simp [State.reg, hf.a, hf.x, hf.y, hf.sp]
    · simp only [List.mem_singleton] at hb
      simp [hf.mem, hb]
  · intro h
    have : o = .acc := by cases o <;> simp_all [Operand.ea]
    subst this
    rw [Operand.put_acc] at *
    refine ⟨by simp [hf.a], fun g hg => ?_, hfl, fun k a _ => by simp [hf.mem], hsys⟩
    cases g <;> simp_all [State.reg, hf.x, hf.y, hf.sp]

/-! ### Interrupts -/

theorem sub_one_one (v : Byte) : v - 1#8 - 1#8 = v - 2#8 := by bv_omega
theorem sub_two_one (v : Byte) : v - 2#8 - 1#8 = v - 3#8 := by bv_omega
theorem ne_sub_one (v : Byte) : (v = v - 1#8) = False := by simp; bv_omega
theorem ne_sub_two (v : Byte) : (v = v - 2#8) = False := by simp; bv_omega

/-- Everything `enterInterrupt` does (R326 to R328): the three stack cells, S, B and I, the PC, and nothing else. -/
theorem State.enterInterrupt_spec (s : State) (b : Bool) (ret v : Word) :
    let t := s.enterInterrupt b ret v
    Stored (s.stackAddr s.sp) (highByte ret) s t ∧ Stored (s.stackAddr (s.sp - 1)) (lowByte ret) s t ∧
    Stored (s.stackAddr (s.sp - 2)) (s.setFlag .b b).ps s t ∧
    t.sp = s.sp - 3 ∧ KeepsRegs [.s] s t ∧ t.flag .b = b ∧ t.flag .i = true ∧ KeepsFlags [.b, .i] s t ∧
    KeepsMem [s.stackAddr s.sp, s.stackAddr (s.sp - 1), s.stackAddr (s.sp - 2)] s t ∧ EndsAt t.pc t ∧
    IsWord t.pc (t.read .vector (v + 1)) (t.read .vector v) := by
  intro t
  refine ⟨?_, ?_, ?_, by simp [t, sub_one_one, sub_two_one], ?_, by simp [t], by simp [t], ?_, ?_,
    ⟨rfl, by simp [t]⟩, ?_⟩
  · intro k
    simp only [t, State.read_enterInterrupt, State.stackAddr_inj]
    by_cases h : s.kindAt (s.stackAddr s.sp) = .ram <;> simp [h, sub_one_one, ne_sub_one, ne_sub_two]
  · intro k
    simp only [t, State.read_enterInterrupt, State.stackAddr_inj]
    by_cases h : s.kindAt (s.stackAddr (s.sp - 1)) = .ram <;> simp at h <;> simp [h, sub_one_one]
  · intro k
    simp only [t, State.read_enterInterrupt, State.stackAddr_inj]
    by_cases h : s.kindAt (s.stackAddr (s.sp - 2)) = .ram <;> simp at h <;> simp [h, sub_one_one]
  · intro r hr
    cases r <;> simp_all [State.reg, t]
  · intro f hf
    cases f <;> simp_all [t]
  · intro k a ha
    simp only [t, State.read_enterInterrupt]
    simp at ha
    simp [ha, sub_one_one]
  · rw [show t.pc = t.vectorTarget v from State.enterInterrupt_pc s b ret v]
    exact isWord_mkWord _ _

/-- A request reaches the CPU when its source exists and it is pending and enabled (R322). -/
theorem State.mem_reaching {s : State} {k : Nat} :
    k ∈ s.reaching ↔ k < s.cfg.irqTable.length ∧ s.pending.getD k false = true ∧ s.enabled.getD k false = true := by
  simp [State.reaching]

/-! ### Loading from outside -/

/-- A byte loaded into a RAM or ROM cell is read back. -/
theorem State.read_load {s : State} {a : Word} (v : Byte) (k : Access) (h : s.kindAt a = .ram ∨ s.kindAt a = .rom) :
    (s.load a v).read k a = v := by
  have hk : (s.load a v).kindAt a = s.kindAt a := rfl
  have hm : Memory.lookup (s.load a v).mem a.toNat = some v := by simp [State.load, Memory.lookup_store]
  rcases h with h | h <;> simp only [State.read, hk, h, hm]

/-- Loading a byte changes no other. -/
theorem State.read_load_ne {s : State} {a b : Word} (v : Byte) (k : Access) (h : b ≠ a) :
    (s.load a v).read k b = s.read k b := by
  have hn : ¬b.toNat = a.toNat := fun e => h (BitVec.eq_of_toNat_eq e)
  simp [State.read, State.load, State.kindAt, Memory.lookup_store, hn]

end Sys2Proof.Machine
end

