-- ==== Sys2Proof/Laws/PerInstr.lean ====
section
/-! SUPPORT. Statements made instruction by instruction: the length of an instruction follows from its first byte. -/

namespace Sys2Proof.Laws.Length

set_option Elab.async false

/-- The length the row of an Op-Code gives (R93). -/
def lengthOf (op : Byte) : Option Nat := (opcodeRow op).map OpcodeRow.length

/-- The first byte alone fixes the length (R92, R93): the row it selects has the length of the whole encoding. -/
def Statement (i : Instr) : Prop := lengthOf ((encode i).headD 0#8) = some (encode i).length

theorem ldaIndx (zz : Byte) : Statement (.ldaIndx zz) := (by decide +kernel : lengthOf 0xA1#8 = some 2)
theorem ldaZp (zz : Byte) : Statement (.ldaZp zz) := (by decide +kernel : lengthOf 0xA5#8 = some 2)
theorem ldaImm (imm : Byte) : Statement (.ldaImm imm) := (by decide +kernel : lengthOf 0xA9#8 = some 2)
theorem ldaAbs (addr : Word) : Statement (.ldaAbs addr) := (by decide +kernel : lengthOf 0xAD#8 = some 3)
theorem ldaIndy (zz : Byte) : Statement (.ldaIndy zz) := (by decide +kernel : lengthOf 0xB1#8 = some 2)
theorem ldaZpx (zz : Byte) : Statement (.ldaZpx zz) := (by decide +kernel : lengthOf 0xB5#8 = some 2)
theorem ldaAbsy (addr : Word) : Statement (.ldaAbsy addr) := (by decide +kernel : lengthOf 0xB9#8 = some 3)
theorem ldaAbsx (addr : Word) : Statement (.ldaAbsx addr) := (by decide +kernel : lengthOf 0xBD#8 = some 3)
theorem ldm (imm : Byte) (zz : Byte) : Statement (.ldm imm zz) := (by decide +kernel : lengthOf 0x3C#8 = some 3)
theorem ldxImm (imm : Byte) : Statement (.ldxImm imm) := (by decide +kernel : lengthOf 0xA2#8 = some 2)
theorem ldxZp (zz : Byte) : Statement (.ldxZp zz) := (by decide +kernel : lengthOf 0xA6#8 = some 2)
theorem ldxAbs (addr : Word) : Statement (.ldxAbs addr) := (by decide +kernel : lengthOf 0xAE#8 = some 3)
theorem ldxZpy (zz : Byte) : Statement (.ldxZpy zz) := (by decide +kernel : lengthOf 0xB6#8 = some 2)
theorem ldxAbsy (addr : Word) : Statement (.ldxAbsy addr) := (by decide +kernel : lengthOf 0xBE#8 = some 3)
theorem ldyImm (imm : Byte) : Statement (.ldyImm imm) := (by decide +kernel : lengthOf 0xA0#8 = some 2)
theorem ldyZp (zz : Byte) : Statement (.ldyZp zz) := (by decide +kernel : lengthOf 0xA4#8 = some 2)
theorem ldyAbs (addr : Word) : Statement (.ldyAbs addr) := (by decide +kernel : lengthOf 0xAC#8 = some 3)
theorem ldyZpx (zz : Byte) : Statement (.ldyZpx zz) := (by decide +kernel : lengthOf 0xB4#8 = some 2)
theorem ldyAbsx (addr : Word) : Statement (.ldyAbsx addr) := (by decide +kernel : lengthOf 0xBC#8 = some 3)
theorem staIndx (zz : Byte) : Statement (.staIndx zz) := (by decide +kernel : lengthOf 0x81#8 = some 2)
theorem staZp (zz : Byte) : Statement (.staZp zz) := (by decide +kernel : lengthOf 0x85#8 = some 2)
theorem staAbs (addr : Word) : Statement (.staAbs addr) := (by decide +kernel : lengthOf 0x8D#8 = some 3)
theorem staIndy (zz : Byte) : Statement (.staIndy zz) := (by decide +kernel : lengthOf 0x91#8 = some 2)
theorem staZpx (zz : Byte) : Statement (.staZpx zz) := (by decide +kernel : lengthOf 0x95#8 = some 2)
theorem staAbsy (addr : Word) : Statement (.staAbsy addr) := (by decide +kernel : lengthOf 0x99#8 = some 3)
theorem staAbsx (addr : Word) : Statement (.staAbsx addr) := (by decide +kernel : lengthOf 0x9D#8 = some 3)
theorem stxZp (zz : Byte) : Statement (.stxZp zz) := (by decide +kernel : lengthOf 0x86#8 = some 2)
theorem stxAbs (addr : Word) : Statement (.stxAbs addr) := (by decide +kernel : lengthOf 0x8E#8 = some 3)
theorem stxZpy (zz : Byte) : Statement (.stxZpy zz) := (by decide +kernel : lengthOf 0x96#8 = some 2)
theorem styZp (zz : Byte) : Statement (.styZp zz) := (by decide +kernel : lengthOf 0x84#8 = some 2)
theorem styAbs (addr : Word) : Statement (.styAbs addr) := (by decide +kernel : lengthOf 0x8C#8 = some 3)
theorem styZpx (zz : Byte) : Statement (.styZpx zz) := (by decide +kernel : lengthOf 0x94#8 = some 2)
theorem tax : Statement .tax := (by decide +kernel : lengthOf 0xAA#8 = some 1)
theorem txa : Statement .txa := (by decide +kernel : lengthOf 0x8A#8 = some 1)
theorem tay : Statement .tay := (by decide +kernel : lengthOf 0xA8#8 = some 1)
theorem tya : Statement .tya := (by decide +kernel : lengthOf 0x98#8 = some 1)
theorem tsx : Statement .tsx := (by decide +kernel : lengthOf 0xBA#8 = some 1)
theorem txs : Statement .txs := (by decide +kernel : lengthOf 0x9A#8 = some 1)
theorem pha : Statement .pha := (by decide +kernel : lengthOf 0x48#8 = some 1)
theorem php : Statement .php := (by decide +kernel : lengthOf 0x08#8 = some 1)
theorem pla : Statement .pla := (by decide +kernel : lengthOf 0x68#8 = some 1)
theorem plp : Statement .plp := (by decide +kernel : lengthOf 0x28#8 = some 1)
theorem adcIndx (zz : Byte) : Statement (.adcIndx zz) := (by decide +kernel : lengthOf 0x61#8 = some 2)
theorem adcZp (zz : Byte) : Statement (.adcZp zz) := (by decide +kernel : lengthOf 0x65#8 = some 2)
theorem adcImm (imm : Byte) : Statement (.adcImm imm) := (by decide +kernel : lengthOf 0x69#8 = some 2)
theorem adcAbs (addr : Word) : Statement (.adcAbs addr) := (by decide +kernel : lengthOf 0x6D#8 = some 3)
theorem adcIndy (zz : Byte) : Statement (.adcIndy zz) := (by decide +kernel : lengthOf 0x71#8 = some 2)
theorem adcZpx (zz : Byte) : Statement (.adcZpx zz) := (by decide +kernel : lengthOf 0x75#8 = some 2)
theorem adcAbsy (addr : Word) : Statement (.adcAbsy addr) := (by decide +kernel : lengthOf 0x79#8 = some 3)
theorem adcAbsx (addr : Word) : Statement (.adcAbsx addr) := (by decide +kernel : lengthOf 0x7D#8 = some 3)
theorem sbcIndx (zz : Byte) : Statement (.sbcIndx zz) := (by decide +kernel : lengthOf 0xE1#8 = some 2)
theorem sbcZp (zz : Byte) : Statement (.sbcZp zz) := (by decide +kernel : lengthOf 0xE5#8 = some 2)
theorem sbcImm (imm : Byte) : Statement (.sbcImm imm) := (by decide +kernel : lengthOf 0xE9#8 = some 2)
theorem sbcAbs (addr : Word) : Statement (.sbcAbs addr) := (by decide +kernel : lengthOf 0xED#8 = some 3)
theorem sbcIndy (zz : Byte) : Statement (.sbcIndy zz) := (by decide +kernel : lengthOf 0xF1#8 = some 2)
theorem sbcZpx (zz : Byte) : Statement (.sbcZpx zz) := (by decide +kernel : lengthOf 0xF5#8 = some 2)
theorem sbcAbsy (addr : Word) : Statement (.sbcAbsy addr) := (by decide +kernel : lengthOf 0xF9#8 = some 3)
theorem sbcAbsx (addr : Word) : Statement (.sbcAbsx addr) := (by decide +kernel : lengthOf 0xFD#8 = some 3)
theorem incAcc : Statement .incAcc := (by decide +kernel : lengthOf 0x3A#8 = some 1)
theorem incZp (zz : Byte) : Statement (.incZp zz) := (by decide +kernel : lengthOf 0xE6#8 = some 2)
theorem incAbs (addr : Word) : Statement (.incAbs addr) := (by decide +kernel : lengthOf 0xEE#8 = some 3)
theorem incZpx (zz : Byte) : Statement (.incZpx zz) := (by decide +kernel : lengthOf 0xF6#8 = some 2)
theorem incAbsx (addr : Word) : Statement (.incAbsx addr) := (by decide +kernel : lengthOf 0xFE#8 = some 3)
theorem decAcc : Statement .decAcc := (by decide +kernel : lengthOf 0x1A#8 = some 1)
theorem decZp (zz : Byte) : Statement (.decZp zz) := (by decide +kernel : lengthOf 0xC6#8 = some 2)
theorem decAbs (addr : Word) : Statement (.decAbs addr) := (by decide +kernel : lengthOf 0xCE#8 = some 3)
theorem decZpx (zz : Byte) : Statement (.decZpx zz) := (by decide +kernel : lengthOf 0xD6#8 = some 2)
theorem decAbsx (addr : Word) : Statement (.decAbsx addr) := (by decide +kernel : lengthOf 0xDE#8 = some 3)
theorem inx : Statement .inx := (by decide +kernel : lengthOf 0xE8#8 = some 1)
theorem dex : Statement .dex := (by decide +kernel : lengthOf 0xCA#8 = some 1)
theorem iny : Statement .iny := (by decide +kernel : lengthOf 0xC8#8 = some 1)
theorem dey : Statement .dey := (by decide +kernel : lengthOf 0x88#8 = some 1)
theorem mulZpx (zz : Byte) : Statement (.mulZpx zz) := (by decide +kernel : lengthOf 0x62#8 = some 2)
theorem divZpx (zz : Byte) : Statement (.divZpx zz) := (by decide +kernel : lengthOf 0xE2#8 = some 2)
theorem cmpIndx (zz : Byte) : Statement (.cmpIndx zz) := (by decide +kernel : lengthOf 0xC1#8 = some 2)
theorem cmpZp (zz : Byte) : Statement (.cmpZp zz) := (by decide +kernel : lengthOf 0xC5#8 = some 2)
theorem cmpImm (imm : Byte) : Statement (.cmpImm imm) := (by decide +kernel : lengthOf 0xC9#8 = some 2)
theorem cmpAbs (addr : Word) : Statement (.cmpAbs addr) := (by decide +kernel : lengthOf 0xCD#8 = some 3)
theorem cmpIndy (zz : Byte) : Statement (.cmpIndy zz) := (by decide +kernel : lengthOf 0xD1#8 = some 2)
theorem cmpZpx (zz : Byte) : Statement (.cmpZpx zz) := (by decide +kernel : lengthOf 0xD5#8 = some 2)
theorem cmpAbsy (addr : Word) : Statement (.cmpAbsy addr) := (by decide +kernel : lengthOf 0xD9#8 = some 3)
theorem cmpAbsx (addr : Word) : Statement (.cmpAbsx addr) := (by decide +kernel : lengthOf 0xDD#8 = some 3)
theorem cpxImm (imm : Byte) : Statement (.cpxImm imm) := (by decide +kernel : lengthOf 0xE0#8 = some 2)
theorem cpxZp (zz : Byte) : Statement (.cpxZp zz) := (by decide +kernel : lengthOf 0xE4#8 = some 2)
theorem cpxAbs (addr : Word) : Statement (.cpxAbs addr) := (by decide +kernel : lengthOf 0xEC#8 = some 3)
theorem cpyImm (imm : Byte) : Statement (.cpyImm imm) := (by decide +kernel : lengthOf 0xC0#8 = some 2)
theorem cpyZp (zz : Byte) : Statement (.cpyZp zz) := (by decide +kernel : lengthOf 0xC4#8 = some 2)
theorem cpyAbs (addr : Word) : Statement (.cpyAbs addr) := (by decide +kernel : lengthOf 0xCC#8 = some 3)
theorem andIndx (zz : Byte) : Statement (.andIndx zz) := (by decide +kernel : lengthOf 0x21#8 = some 2)
theorem andZp (zz : Byte) : Statement (.andZp zz) := (by decide +kernel : lengthOf 0x25#8 = some 2)
theorem andImm (imm : Byte) : Statement (.andImm imm) := (by decide +kernel : lengthOf 0x29#8 = some 2)
theorem andAbs (addr : Word) : Statement (.andAbs addr) := (by decide +kernel : lengthOf 0x2D#8 = some 3)
theorem andIndy (zz : Byte) : Statement (.andIndy zz) := (by decide +kernel : lengthOf 0x31#8 = some 2)
theorem andZpx (zz : Byte) : Statement (.andZpx zz) := (by decide +kernel : lengthOf 0x35#8 = some 2)
theorem andAbsy (addr : Word) : Statement (.andAbsy addr) := (by decide +kernel : lengthOf 0x39#8 = some 3)
theorem andAbsx (addr : Word) : Statement (.andAbsx addr) := (by decide +kernel : lengthOf 0x3D#8 = some 3)
theorem oraIndx (zz : Byte) : Statement (.oraIndx zz) := (by decide +kernel : lengthOf 0x01#8 = some 2)
theorem oraZp (zz : Byte) : Statement (.oraZp zz) := (by decide +kernel : lengthOf 0x05#8 = some 2)
theorem oraImm (imm : Byte) : Statement (.oraImm imm) := (by decide +kernel : lengthOf 0x09#8 = some 2)
theorem oraAbs (addr : Word) : Statement (.oraAbs addr) := (by decide +kernel : lengthOf 0x0D#8 = some 3)
theorem oraIndy (zz : Byte) : Statement (.oraIndy zz) := (by decide +kernel : lengthOf 0x11#8 = some 2)
theorem oraZpx (zz : Byte) : Statement (.oraZpx zz) := (by decide +kernel : lengthOf 0x15#8 = some 2)
theorem oraAbsy (addr : Word) : Statement (.oraAbsy addr) := (by decide +kernel : lengthOf 0x19#8 = some 3)
theorem oraAbsx (addr : Word) : Statement (.oraAbsx addr) := (by decide +kernel : lengthOf 0x1D#8 = some 3)
theorem eorIndx (zz : Byte) : Statement (.eorIndx zz) := (by decide +kernel : lengthOf 0x41#8 = some 2)
theorem eorZp (zz : Byte) : Statement (.eorZp zz) := (by decide +kernel : lengthOf 0x45#8 = some 2)
theorem eorImm (imm : Byte) : Statement (.eorImm imm) := (by decide +kernel : lengthOf 0x49#8 = some 2)
theorem eorAbs (addr : Word) : Statement (.eorAbs addr) := (by decide +kernel : lengthOf 0x4D#8 = some 3)
theorem eorIndy (zz : Byte) : Statement (.eorIndy zz) := (by decide +kernel : lengthOf 0x51#8 = some 2)
theorem eorZpx (zz : Byte) : Statement (.eorZpx zz) := (by decide +kernel : lengthOf 0x55#8 = some 2)
theorem eorAbsy (addr : Word) : Statement (.eorAbsy addr) := (by decide +kernel : lengthOf 0x59#8 = some 3)
theorem eorAbsx (addr : Word) : Statement (.eorAbsx addr) := (by decide +kernel : lengthOf 0x5D#8 = some 3)
theorem comZp (zz : Byte) : Statement (.comZp zz) := (by decide +kernel : lengthOf 0x44#8 = some 2)
theorem bitZp (zz : Byte) : Statement (.bitZp zz) := (by decide +kernel : lengthOf 0x24#8 = some 2)
theorem bitAbs (addr : Word) : Statement (.bitAbs addr) := (by decide +kernel : lengthOf 0x2C#8 = some 3)
theorem tstZp (zz : Byte) : Statement (.tstZp zz) := (by decide +kernel : lengthOf 0x64#8 = some 2)
theorem aslZp (zz : Byte) : Statement (.aslZp zz) := (by decide +kernel : lengthOf 0x06#8 = some 2)
theorem aslAcc : Statement .aslAcc := (by decide +kernel : lengthOf 0x0A#8 = some 1)
theorem aslAbs (addr : Word) : Statement (.aslAbs addr) := (by decide +kernel : lengthOf 0x0E#8 = some 3)
theorem aslZpx (zz : Byte) : Statement (.aslZpx zz) := (by decide +kernel : lengthOf 0x16#8 = some 2)
theorem aslAbsx (addr : Word) : Statement (.aslAbsx addr) := (by decide +kernel : lengthOf 0x1E#8 = some 3)
theorem lsrZp (zz : Byte) : Statement (.lsrZp zz) := (by decide +kernel : lengthOf 0x46#8 = some 2)
theorem lsrAcc : Statement .lsrAcc := (by decide +kernel : lengthOf 0x4A#8 = some 1)
theorem lsrAbs (addr : Word) : Statement (.lsrAbs addr) := (by decide +kernel : lengthOf 0x4E#8 = some 3)
theorem lsrZpx (zz : Byte) : Statement (.lsrZpx zz) := (by decide +kernel : lengthOf 0x56#8 = some 2)
theorem lsrAbsx (addr : Word) : Statement (.lsrAbsx addr) := (by decide +kernel : lengthOf 0x5E#8 = some 3)
theorem rolZp (zz : Byte) : Statement (.rolZp zz) := (by decide +kernel : lengthOf 0x26#8 = some 2)
theorem rolAcc : Statement .rolAcc := (by decide +kernel : lengthOf 0x2A#8 = some 1)
theorem rolAbs (addr : Word) : Statement (.rolAbs addr) := (by decide +kernel : lengthOf 0x2E#8 = some 3)
theorem rolZpx (zz : Byte) : Statement (.rolZpx zz) := (by decide +kernel : lengthOf 0x36#8 = some 2)
theorem rolAbsx (addr : Word) : Statement (.rolAbsx addr) := (by decide +kernel : lengthOf 0x3E#8 = some 3)
theorem rorZp (zz : Byte) : Statement (.rorZp zz) := (by decide +kernel : lengthOf 0x66#8 = some 2)
theorem rorAcc : Statement .rorAcc := (by decide +kernel : lengthOf 0x6A#8 = some 1)
theorem rorAbs (addr : Word) : Statement (.rorAbs addr) := (by decide +kernel : lengthOf 0x6E#8 = some 3)
theorem rorZpx (zz : Byte) : Statement (.rorZpx zz) := (by decide +kernel : lengthOf 0x76#8 = some 2)
theorem rorAbsx (addr : Word) : Statement (.rorAbsx addr) := (by decide +kernel : lengthOf 0x7E#8 = some 3)
theorem rrfZp (zz : Byte) : Statement (.rrfZp zz) := (by decide +kernel : lengthOf 0x82#8 = some 2)
theorem clbAcc (b : BitNo) : Statement (.clbAcc b) :=
  (by decide +kernel : ∀ b : BitNo, lengthOf (b ++ 0x1B#5) = some 1) b
theorem clbZp (b : BitNo) (zz : Byte) : Statement (.clbZp b zz) :=
  (by decide +kernel : ∀ b : BitNo, lengthOf (b ++ 0x1F#5) = some 2) b
theorem sebAcc (b : BitNo) : Statement (.sebAcc b) :=
  (by decide +kernel : ∀ b : BitNo, lengthOf (b ++ 0x0B#5) = some 1) b
theorem sebZp (b : BitNo) (zz : Byte) : Statement (.sebZp b zz) :=
  (by decide +kernel : ∀ b : BitNo, lengthOf (b ++ 0x0F#5) = some 2) b
theorem clc : Statement .clc := (by decide +kernel : lengthOf 0x18#8 = some 1)
theorem sec : Statement .sec := (by decide +kernel : lengthOf 0x38#8 = some 1)
theorem cld : Statement .cld := (by decide +kernel : lengthOf 0xD8#8 = some 1)
theorem sed : Statement .sed := (by decide +kernel : lengthOf 0xF8#8 = some 1)
theorem cli : Statement .cli := (by decide +kernel : lengthOf 0x58#8 = some 1)
theorem sei : Statement .sei := (by decide +kernel : lengthOf 0x78#8 = some 1)
theorem clt : Statement .clt := (by decide +kernel : lengthOf 0x12#8 = some 1)
theorem set : Statement .set := (by decide +kernel : lengthOf 0x32#8 = some 1)
theorem clv : Statement .clv := (by decide +kernel : lengthOf 0xB8#8 = some 1)
theorem jmpAbs (addr : Word) : Statement (.jmpAbs addr) := (by decide +kernel : lengthOf 0x4C#8 = some 3)
theorem jmpInd (addr : Word) : Statement (.jmpInd addr) := (by decide +kernel : lengthOf 0x6C#8 = some 3)
theorem jmpZpind (zz : Byte) : Statement (.jmpZpind zz) := (by decide +kernel : lengthOf 0xB2#8 = some 2)
theorem bra (disp : Byte) : Statement (.bra disp) := (by decide +kernel : lengthOf 0x80#8 = some 2)
theorem jsrZpind (zz : Byte) : Statement (.jsrZpind zz) := (by decide +kernel : lengthOf 0x02#8 = some 2)
theorem jsrAbs (addr : Word) : Statement (.jsrAbs addr) := (by decide +kernel : lengthOf 0x20#8 = some 3)
theorem jsrSp (pp : Byte) : Statement (.jsrSp pp) := (by decide +kernel : lengthOf 0x22#8 = some 2)
theorem rts : Statement .rts := (by decide +kernel : lengthOf 0x60#8 = some 1)
theorem rti : Statement .rti := (by decide +kernel : lengthOf 0x40#8 = some 1)
theorem bbcAcc (b : BitNo) (disp : Byte) : Statement (.bbcAcc b disp) :=
  (by decide +kernel : ∀ b : BitNo, lengthOf (b ++ 0x13#5) = some 2) b
theorem bbcZp (b : BitNo) (zz : Byte) (disp : Byte) : Statement (.bbcZp b zz disp) :=
  (by decide +kernel : ∀ b : BitNo, lengthOf (b ++ 0x17#5) = some 3) b
theorem bbsAcc (b : BitNo) (disp : Byte) : Statement (.bbsAcc b disp) :=
  (by decide +kernel : ∀ b : BitNo, lengthOf (b ++ 0x03#5) = some 2) b
theorem bbsZp (b : BitNo) (zz : Byte) (disp : Byte) : Statement (.bbsZp b zz disp) :=
  (by decide +kernel : ∀ b : BitNo, lengthOf (b ++ 0x07#5) = some 3) b
theorem bcc (disp : Byte) : Statement (.bcc disp) := (by decide +kernel : lengthOf 0x90#8 = some 2)
theorem bcs (disp : Byte) : Statement (.bcs disp) := (by decide +kernel : lengthOf 0xB0#8 = some 2)
theorem bne (disp : Byte) : Statement (.bne disp) := (by decide +kernel : lengthOf 0xD0#8 = some 2)
theorem beq (disp : Byte) : Statement (.beq disp) := (by decide +kernel : lengthOf 0xF0#8 = some 2)
theorem bpl (disp : Byte) : Statement (.bpl disp) := (by decide +kernel : lengthOf 0x10#8 = some 2)
theorem bmi (disp : Byte) : Statement (.bmi disp) := (by decide +kernel : lengthOf 0x30#8 = some 2)
theorem bvc (disp : Byte) : Statement (.bvc disp) := (by decide +kernel : lengthOf 0x50#8 = some 2)
theorem bvs (disp : Byte) : Statement (.bvs disp) := (by decide +kernel : lengthOf 0x70#8 = some 2)
theorem brk : Statement .brk := (by decide +kernel : lengthOf 0x00#8 = some 1)
theorem wit : Statement .wit := (by decide +kernel : lengthOf 0xC2#8 = some 1)
theorem stp : Statement .stp := (by decide +kernel : lengthOf 0x42#8 = some 1)
theorem nop : Statement .nop := (by decide +kernel : lengthOf 0xEA#8 = some 1)

end Sys2Proof.Laws.Length
end

