-- ==== Sys2Proof/Tests/Slice0.lean ====
section
/-! SUPPORT. Tests. Every expected value is from spec/95_test_vectors.md (the vector's number is in the theorem's name),
spec/30_encoding.md R97 or R98, or computed by hand from the rule cited. -/

namespace Sys2Proof.Tests

open Sys2Proof.Machine

set_option Elab.async false

/-! ## Decoding: words written out from the matrix of R97, operand bytes 12 and AD -/

/-- Each byte list decodes to its instruction, and the bytes after it are left. -/
def decodesAll (l : List (List Byte × Instr)) : Bool :=
  l.all fun p => match decode (p.1 ++ [0x5A, 0xC3]) with
    | .ok (i, rest) => decide (i = p.2) && decide (rest = [0x5A, 0xC3])
    | .error _ => false

theorem test_decode_data_transfer : decodesAll [
    ([0xA1, 0x12], .ldaIndx 0x12), ([0xA5, 0x12], .ldaZp 0x12), ([0xA9, 0x12], .ldaImm 0x12),
    ([0xAD, 0x12, 0xAD], .ldaAbs 0xAD12), ([0xB1, 0x12], .ldaIndy 0x12), ([0xB5, 0x12], .ldaZpx 0x12),
    ([0xB9, 0x12, 0xAD], .ldaAbsy 0xAD12), ([0xBD, 0x12, 0xAD], .ldaAbsx 0xAD12),
    ([0x3C, 0x12, 0xAD], .ldm 0x12 0xAD), ([0xA2, 0x12], .ldxImm 0x12), ([0xA6, 0x12], .ldxZp 0x12),
    ([0xAE, 0x12, 0xAD], .ldxAbs 0xAD12), ([0xB6, 0x12], .ldxZpy 0x12), ([0xBE, 0x12, 0xAD], .ldxAbsy 0xAD12),
    ([0xA0, 0x12], .ldyImm 0x12), ([0xA4, 0x12], .ldyZp 0x12), ([0xAC, 0x12, 0xAD], .ldyAbs 0xAD12),
    ([0xB4, 0x12], .ldyZpx 0x12), ([0xBC, 0x12, 0xAD], .ldyAbsx 0xAD12), ([0x81, 0x12], .staIndx 0x12),
    ([0x85, 0x12], .staZp 0x12), ([0x8D, 0x12, 0xAD], .staAbs 0xAD12), ([0x91, 0x12], .staIndy 0x12),
    ([0x95, 0x12], .staZpx 0x12), ([0x99, 0x12, 0xAD], .staAbsy 0xAD12), ([0x9D, 0x12, 0xAD], .staAbsx 0xAD12),
    ([0x86, 0x12], .stxZp 0x12), ([0x8E, 0x12, 0xAD], .stxAbs 0xAD12), ([0x96, 0x12], .stxZpy 0x12),
    ([0x84, 0x12], .styZp 0x12), ([0x8C, 0x12, 0xAD], .styAbs 0xAD12), ([0x94, 0x12], .styZpx 0x12), ([0xAA], .tax),
    ([0x8A], .txa), ([0xA8], .tay), ([0x98], .tya), ([0xBA], .tsx), ([0x9A], .txs), ([0x48], .pha), ([0x08], .php),
    ([0x68], .pla), ([0x28], .plp)] = true := by decide +kernel

theorem test_decode_arithmetic : decodesAll [
    ([0x61, 0x12], .adcIndx 0x12), ([0x65, 0x12], .adcZp 0x12), ([0x69, 0x12], .adcImm 0x12),
    ([0x6D, 0x12, 0xAD], .adcAbs 0xAD12), ([0x71, 0x12], .adcIndy 0x12), ([0x75, 0x12], .adcZpx 0x12),
    ([0x79, 0x12, 0xAD], .adcAbsy 0xAD12), ([0x7D, 0x12, 0xAD], .adcAbsx 0xAD12), ([0xE1, 0x12], .sbcIndx 0x12),
    ([0xE5, 0x12], .sbcZp 0x12), ([0xE9, 0x12], .sbcImm 0x12), ([0xED, 0x12, 0xAD], .sbcAbs 0xAD12),
    ([0xF1, 0x12], .sbcIndy 0x12), ([0xF5, 0x12], .sbcZpx 0x12), ([0xF9, 0x12, 0xAD], .sbcAbsy 0xAD12),
    ([0xFD, 0x12, 0xAD], .sbcAbsx 0xAD12), ([0x3A], .incAcc), ([0xE6, 0x12], .incZp 0x12),
    ([0xEE, 0x12, 0xAD], .incAbs 0xAD12), ([0xF6, 0x12], .incZpx 0x12), ([0xFE, 0x12, 0xAD], .incAbsx 0xAD12),
    ([0x1A], .decAcc), ([0xC6, 0x12], .decZp 0x12), ([0xCE, 0x12, 0xAD], .decAbs 0xAD12),
    ([0xD6, 0x12], .decZpx 0x12), ([0xDE, 0x12, 0xAD], .decAbsx 0xAD12), ([0xE8], .inx), ([0xCA], .dex),
    ([0xC8], .iny), ([0x88], .dey), ([0x62, 0x12], .mulZpx 0x12), ([0xE2, 0x12], .divZpx 0x12),
    ([0xC1, 0x12], .cmpIndx 0x12), ([0xC5, 0x12], .cmpZp 0x12), ([0xC9, 0x12], .cmpImm 0x12),
    ([0xCD, 0x12, 0xAD], .cmpAbs 0xAD12), ([0xD1, 0x12], .cmpIndy 0x12), ([0xD5, 0x12], .cmpZpx 0x12),
    ([0xD9, 0x12, 0xAD], .cmpAbsy 0xAD12), ([0xDD, 0x12, 0xAD], .cmpAbsx 0xAD12), ([0xE0, 0x12], .cpxImm 0x12),
    ([0xE4, 0x12], .cpxZp 0x12), ([0xEC, 0x12, 0xAD], .cpxAbs 0xAD12), ([0xC0, 0x12], .cpyImm 0x12),
    ([0xC4, 0x12], .cpyZp 0x12), ([0xCC, 0x12, 0xAD], .cpyAbs 0xAD12)] = true := by decide +kernel

theorem test_decode_logic_shift : decodesAll [
    ([0x21, 0x12], .andIndx 0x12), ([0x25, 0x12], .andZp 0x12), ([0x29, 0x12], .andImm 0x12),
    ([0x2D, 0x12, 0xAD], .andAbs 0xAD12), ([0x31, 0x12], .andIndy 0x12), ([0x35, 0x12], .andZpx 0x12),
    ([0x39, 0x12, 0xAD], .andAbsy 0xAD12), ([0x3D, 0x12, 0xAD], .andAbsx 0xAD12), ([0x01, 0x12], .oraIndx 0x12),
    ([0x05, 0x12], .oraZp 0x12), ([0x09, 0x12], .oraImm 0x12), ([0x0D, 0x12, 0xAD], .oraAbs 0xAD12),
    ([0x11, 0x12], .oraIndy 0x12), ([0x15, 0x12], .oraZpx 0x12), ([0x19, 0x12, 0xAD], .oraAbsy 0xAD12),
    ([0x1D, 0x12, 0xAD], .oraAbsx 0xAD12), ([0x41, 0x12], .eorIndx 0x12), ([0x45, 0x12], .eorZp 0x12),
    ([0x49, 0x12], .eorImm 0x12), ([0x4D, 0x12, 0xAD], .eorAbs 0xAD12), ([0x51, 0x12], .eorIndy 0x12),
    ([0x55, 0x12], .eorZpx 0x12), ([0x59, 0x12, 0xAD], .eorAbsy 0xAD12), ([0x5D, 0x12, 0xAD], .eorAbsx 0xAD12),
    ([0x44, 0x12], .comZp 0x12), ([0x24, 0x12], .bitZp 0x12), ([0x2C, 0x12, 0xAD], .bitAbs 0xAD12),
    ([0x64, 0x12], .tstZp 0x12), ([0x06, 0x12], .aslZp 0x12), ([0x0A], .aslAcc),
    ([0x0E, 0x12, 0xAD], .aslAbs 0xAD12), ([0x16, 0x12], .aslZpx 0x12), ([0x1E, 0x12, 0xAD], .aslAbsx 0xAD12),
    ([0x46, 0x12], .lsrZp 0x12), ([0x4A], .lsrAcc), ([0x4E, 0x12, 0xAD], .lsrAbs 0xAD12),
    ([0x56, 0x12], .lsrZpx 0x12), ([0x5E, 0x12, 0xAD], .lsrAbsx 0xAD12), ([0x26, 0x12], .rolZp 0x12),
    ([0x2A], .rolAcc), ([0x2E, 0x12, 0xAD], .rolAbs 0xAD12), ([0x36, 0x12], .rolZpx 0x12),
    ([0x3E, 0x12, 0xAD], .rolAbsx 0xAD12), ([0x66, 0x12], .rorZp 0x12), ([0x6A], .rorAcc),
    ([0x6E, 0x12, 0xAD], .rorAbs 0xAD12), ([0x76, 0x12], .rorZpx 0x12), ([0x7E, 0x12, 0xAD], .rorAbsx 0xAD12),
    ([0x82, 0x12], .rrfZp 0x12)] = true := by decide +kernel

theorem test_decode_bit_managing : decodesAll [
    ([0xBB], .clbAcc 5), ([0xBF, 0x12], .clbZp 5 0x12), ([0xAB], .sebAcc 5),
    ([0xAF, 0x12], .sebZp 5 0x12)] = true := by decide +kernel

theorem test_decode_flag_setting : decodesAll [
    ([0x18], .clc), ([0x38], .sec), ([0xD8], .cld), ([0xF8], .sed), ([0x58], .cli), ([0x78], .sei), ([0x12], .clt),
    ([0x32], .set), ([0xB8], .clv)] = true := by decide +kernel

theorem test_decode_jump_branch : decodesAll [
    ([0x4C, 0x12, 0xAD], .jmpAbs 0xAD12), ([0x6C, 0x12, 0xAD], .jmpInd 0xAD12), ([0xB2, 0x12], .jmpZpind 0x12),
    ([0x80, 0x12], .bra 0x12), ([0x02, 0x12], .jsrZpind 0x12), ([0x20, 0x12, 0xAD], .jsrAbs 0xAD12),
    ([0x22, 0x12], .jsrSp 0x12), ([0x60], .rts), ([0x40], .rti), ([0xB3, 0x12], .bbcAcc 5 0x12),
    ([0xF7, 0x12, 0xAD], .bbcZp 7 0x12 0xAD), ([0xA3, 0x12], .bbsAcc 5 0x12),
    ([0xA7, 0x12, 0xAD], .bbsZp 5 0x12 0xAD), ([0x90, 0x12], .bcc 0x12), ([0xB0, 0x12], .bcs 0x12),
    ([0xD0, 0x12], .bne 0x12), ([0xF0, 0x12], .beq 0x12), ([0x10, 0x12], .bpl 0x12), ([0x30, 0x12], .bmi 0x12),
    ([0x50, 0x12], .bvc 0x12), ([0x70, 0x12], .bvs 0x12)] = true := by decide +kernel

theorem test_decode_special : decodesAll [
    ([0x00], .brk), ([0xC2], .wit), ([0x42], .stp), ([0xEA], .nop)] = true := by decide +kernel

/-- The eight machine codes the source shows (R101, 95_test_vectors.md A1 to A8). -/
theorem test_decode_source_examples : decodesAll [
    ([0x69, 0xA5], .adcImm 0xA5), ([0x2A], .rolAcc), ([0x65, 0x40], .adcZp 0x40), ([0x75, 0x5E], .adcZpx 0x5E),
    ([0xB6, 0x62], .ldxZpy 0x62), ([0x6D, 0x12, 0xAD], .adcAbs 0xAD12), ([0x7D, 0x12, 0xAD], .adcAbsx 0xAD12),
    ([0x79, 0x12, 0xAD], .adcAbsy 0xAD12)] = true := by decide +kernel

/-- The first and the last bit number of R95. -/
theorem test_decode_bit_numbers : decodesAll [
    ([0x03, 0x05], .bbsAcc 0 0x05), ([0xE3, 0x05], .bbsAcc 7 0x05), ([0x0B], .sebAcc 0), ([0xFB], .clbAcc 7),
    ([0xF7, 0x04, 0xF1], .bbcZp 7 0x04 0xF1), ([0x1F, 0x44], .clbZp 0 0x44)] = true := by decide +kernel

/-- The 25 bytes of R99 select no instruction. -/
theorem test_decode_undefined : ([0x04, 0x0C, 0x14, 0x1C, 0x34, 0x52, 0x54, 0x5A, 0x5C, 0x72, 0x74, 0x7A, 0x7C, 0x89,
    0x92, 0x9C, 0x9E, 0xD2, 0xD4, 0xDA, 0xDC, 0xF2, 0xF4, 0xFA, 0xFC].all fun op : Byte =>
      (opcodeRow op).isNone) = true := by decide +kernel

/-- Bytes that stop short are no instruction. -/
theorem test_decode_truncated : decode [0xAD#8, 0x12#8] = .error .truncated := by rfl

/-! ## Well-formedness: one ill-formed term for each check -/

/-- A member with none of the optional instructions. -/
def bareConfig : Config := { resetConfig with hasMulDiv := false, hasStpWit := false }

theorem test_wf_refuses_mul : wellFormed bareConfig (.mulZpx 0x40) = false := by decide
theorem test_wf_refuses_stp : wellFormed bareConfig .stp = false := by decide
theorem test_wf_refuses_jmp_page_end : wellFormed resetConfig (.jmpInd 0x12FF) = false := by decide
theorem test_wf_accepts : wellFormed resetConfig (.jmpInd 0x12FE) = true := by decide

/-! ## One step: the vectors of 95_test_vectors.md part B -/

/-- A start state under the conventions of 95_test_vectors.md: the code at the PC, then the listed cells. -/
def start (a x y sp ps : Byte) (pc : Word) (code : List Byte) (cells : List (Word × Byte)) : State :=
  { State.reset with
    a := a, x := x, y := y, sp := sp, ps := ps, pc := pc
    mem := ((code.zipIdx.map fun p => (pc + BitVec.ofNat 16 p.2, p.1)) ++ cells).foldl
      (fun m c => Memory.store m c.1.toNat c.2) [] }

/-- One step ends in run state `r` with these registers, and memory as at the start but for the bytes listed. -/
def endsIn (r : RunState) (s : State) (a x y sp ps : Byte) (pc : Word) (written : List (Word × Byte)) : Bool :=
  match step s with
  | .next t =>
    t.a == a && t.x == x && t.y == y && t.sp == sp && t.ps == ps && t.pc == pc && decide (t.runState = r) &&
      decide (t.mem = written.foldl (fun m c => Memory.store m c.1.toNat c.2) s.mem)
  | .fault _ | .refused _ => false

/-- The same, ending in `running`. -/
def ends (s : State) (a x y sp ps : Byte) (pc : Word) (written : List (Word × Byte)) : Bool :=
  endsIn .running s a x y sp ps pc written

/-- One step of a decimal ADC or SBC: A, the PC and `dec_pending`; N, V and Z are drawn. -/
def endsDecimal (s : State) (a : Byte) (pc : Word) : Bool :=
  match step s with
  | .next t => t.a == a && t.pc == pc && t.decPending
  | .fault _ | .refused _ => false

/-- One step is refused, for this reason. -/
def refusesWith (s : State) (why : Refusal) : Bool :=
  match step s with
  | .refused r => decide (r = why)
  | .next _ | .fault _ => false

theorem test_t1_lda :
    ends (start 0x55 0x00 0x00 0xFF 0x80 0xC000 [0xA9, 0x00] [])
      0x00 0x00 0x00 0xFF 0x02 0xC002 [] = true := by decide
theorem test_t3_lda :
    ends (start 0x11 0x50 0x00 0xFF 0x20 0xC000 [0xA5, 0x40] [(0x0040, 0x99), (0x0050, 0x00)])
      0x11 0x50 0x00 0xFF 0xA0 0xC002 [(0x0050, 0x99)] = true := by decide
theorem test_t4_ldm :
    ends (start 0x00 0x00 0x00 0xFF 0x82 0xC000 [0x3C, 0x55, 0x40] [])
      0x00 0x00 0x00 0xFF 0x82 0xC003 [(0x0040, 0x55)] = true := by decide
theorem test_t5_ldx :
    ends (start 0x00 0x00 0x06 0xFF 0x00 0xC000 [0xB6, 0x62] [(0x0068, 0x9C)])
      0x00 0x9C 0x06 0xFF 0x80 0xC002 [] = true := by decide
theorem test_t6_ldx :
    ends (start 0x00 0x00 0x20 0xFF 0x00 0xC000 [0xB6, 0xF0] [(0x0010, 0x00)])
      0x00 0x00 0x20 0xFF 0x02 0xC002 [] = true := by decide
theorem test_t7_ldy :
    ends (start 0x00 0xEE 0x00 0xFF 0x00 0xC000 [0xBC, 0x12, 0xAD] [(0xAE00, 0x7F)])
      0x00 0xEE 0x7F 0xFF 0x00 0xC003 [] = true := by decide
theorem test_t8_sta :
    ends (start 0x3C 0x02 0x00 0xFF 0x00 0xC000 [0x9D, 0xFF, 0xFF] [])
      0x3C 0x02 0x00 0xFF 0x00 0xC003 [(0x0001, 0x3C)] = true := by decide
theorem test_t9_stx :
    ends (start 0x00 0x01 0xF8 0xFF 0x00 0xC000 [0x96, 0x10] [])
      0x00 0x01 0xF8 0xFF 0x00 0xC002 [(0x0008, 0x01)] = true := by decide
theorem test_t10_txs :
    ends (start 0x00 0x80 0x00 0x12 0x02 0xC000 [0x9A] [])
      0x00 0x80 0x00 0x80 0x02 0xC001 [] = true := by decide
theorem test_t11_tsx :
    ends (start 0x00 0x00 0x00 0x00 0x80 0xC000 [0xBA] [])
      0x00 0x00 0x00 0x00 0x02 0xC001 [] = true := by decide
theorem test_t12_tax :
    ends (start 0xFF 0x00 0x00 0xFF 0x00 0xC000 [0xAA] [])
      0xFF 0xFF 0x00 0xFF 0x80 0xC001 [] = true := by decide
theorem test_t13_pha :
    ends (start 0x5A 0x00 0x00 0x00 0x00 0xC000 [0x48] [])
      0x5A 0x00 0x00 0xFF 0x00 0xC001 [(0x0100, 0x5A)] = true := by decide
theorem test_t14_pla :
    ends (start 0x00 0x00 0x00 0xFF 0x00 0xC000 [0x68] [(0x0100, 0x00)])
      0x00 0x00 0x00 0x00 0x02 0xC001 [] = true := by decide
theorem test_t15_php :
    ends (start 0x00 0x00 0x00 0x80 0xFF 0xC000 [0x08] [])
      0x00 0x00 0x00 0x7F 0xFF 0xC001 [(0x0180, 0xFF)] = true := by decide
theorem test_t16_plp :
    ends (start 0x00 0x00 0x00 0xFD 0x04 0xC000 [0x28] [(0x01FE, 0xEB)])
      0x00 0x00 0x00 0xFE 0xEB 0xC001 [] = true := by decide
theorem test_t17_lda :
    ends (start 0x00 0x04 0x00 0xFF 0x00 0xC000 [0xA1, 0x40] [(0x0044, 0x00), (0x0045, 0x20), (0x2000, 0x42)])
      0x42 0x04 0x00 0xFF 0x00 0xC002 [] = true := by decide
theorem test_t18_lda :
    ends (start 0x00 0x00 0x01 0xFF 0x00 0xC000 [0xB1, 0xFF] [(0x0000, 0x12), (0x00FF, 0xFF), (0x1300, 0x77)])
      0x77 0x00 0x01 0xFF 0x00 0xC002 [] = true := by decide
theorem test_a4_adc :
    ends (start 0x80 0x00 0x00 0xFF 0x00 0xC000 [0x69, 0x80] [])
      0x00 0x00 0x00 0xFF 0x43 0xC002 [] = true := by decide
theorem test_a6_adc :
    ends (start 0x01 0xE6 0x00 0xFF 0x00 0xC000 [0x75, 0x5E] [(0x0044, 0x02)])
      0x03 0xE6 0x00 0xFF 0x00 0xC002 [] = true := by decide
theorem test_a7_adc :
    ends (start 0xEE 0x50 0x00 0xFF 0x21 0xC000 [0x65, 0x40] [(0x0040, 0x05), (0x0050, 0x12)])
      0xEE 0x50 0x00 0xFF 0x20 0xC002 [(0x0050, 0x18)] = true := by decide
theorem test_a8_adc :
    ends (start 0x00 0x50 0x00 0xFF 0x20 0xC000 [0x65, 0x50] [(0x0050, 0x81)])
      0x00 0x50 0x00 0xFF 0x61 0xC002 [(0x0050, 0x02)] = true := by decide
theorem test_a10_adc : endsDecimal (start 0x99 0x00 0x00 0xFF 0x08 0xC000 [0x69, 0x01] []) 0x00 0xC002 = true := by decide
theorem test_a13_sbc :
    ends (start 0x80 0x00 0x00 0xFF 0x01 0xC000 [0xE9, 0x01] [])
      0x7F 0x00 0x00 0xFF 0x41 0xC002 [] = true := by decide
theorem test_a16_sbc : endsDecimal (start 0x00 0x00 0x00 0xFF 0x09 0xC000 [0xE9, 0x01] []) 0x99 0xC002 = true := by decide
theorem test_a17_inc :
    ends (start 0xFF 0x00 0x00 0xFF 0x00 0xC000 [0x3A] [])
      0x00 0x00 0x00 0xFF 0x02 0xC001 [] = true := by decide
theorem test_a18_dec :
    ends (start 0x00 0x00 0x00 0xFF 0x00 0xC000 [0xC6, 0x40] [(0x0040, 0x00)])
      0x00 0x00 0x00 0xFF 0x80 0xC002 [(0x0040, 0xFF)] = true := by decide
theorem test_a19_inx :
    ends (start 0x00 0x7F 0x00 0xFF 0x00 0xC000 [0xE8] [])
      0x00 0x80 0x00 0xFF 0x80 0xC001 [] = true := by decide
theorem test_a20_dey :
    ends (start 0x00 0x00 0x01 0xFF 0x00 0xC000 [0x88] [])
      0x00 0x00 0x00 0xFF 0x02 0xC001 [] = true := by decide
theorem test_a21_mul :
    ends (start 0xFF 0x00 0x00 0xFF 0x00 0xC000 [0x62, 0x40] [(0x0040, 0xFF)])
      0x01 0x00 0x00 0xFE 0x00 0xC002 [(0x01FF, 0xFE)] = true := by decide
theorem test_a22_mul :
    ends (start 0x02 0x20 0x00 0x00 0x00 0xC000 [0x62, 0xF0] [(0x0010, 0x03)])
      0x06 0x20 0x00 0xFF 0x00 0xC002 [(0x0100, 0x00)] = true := by decide
theorem test_a23_div :
    ends (start 0x07 0x00 0x00 0xFF 0x00 0xC000 [0xE2, 0x40] [(0x0040, 0xE8), (0x0041, 0x03)])
      0x8E 0x00 0x00 0xFE 0x00 0xC002 [(0x01FF, 0xF9)] = true := by decide
theorem test_a26_div : refusesWith (start 0x02 0x00 0x00 0xFF 0x00 0xC000 [0xE2, 0xFF] [(0x0000, 0x00), (0x00FF, 0x04)]) .divOperandWraps = true := by decide
theorem test_a29_cmp :
    ends (start 0x80 0x00 0x00 0xFF 0x48 0xC000 [0xC9, 0x01] [])
      0x80 0x00 0x00 0xFF 0x49 0xC002 [] = true := by decide
theorem test_a30_cmp :
    ends (start 0x00 0x50 0x00 0xFF 0x20 0xC000 [0xC9, 0x12] [(0x0050, 0x12)])
      0x00 0x50 0x00 0xFF 0x23 0xC002 [] = true := by decide
theorem test_a31_cpx :
    ends (start 0x00 0x04 0x00 0xFF 0x00 0xC000 [0xE0, 0x05] [])
      0x00 0x04 0x00 0xFF 0x80 0xC002 [] = true := by decide
theorem test_a32_cpy :
    ends (start 0x00 0x00 0xFF 0xFF 0x00 0xC000 [0xC4, 0x40] [(0x0040, 0x01)])
      0x00 0x00 0xFF 0xFF 0x81 0xC002 [] = true := by decide
theorem test_g1_and :
    ends (start 0xF0 0x00 0x00 0xFF 0x80 0xC000 [0x29, 0x0F] [])
      0x00 0x00 0x00 0xFF 0x02 0xC002 [] = true := by decide
theorem test_g2_ora :
    ends (start 0x01 0x00 0x00 0xFF 0x00 0xC000 [0x09, 0x80] [])
      0x81 0x00 0x00 0xFF 0x80 0xC002 [] = true := by decide
theorem test_g3_eor :
    ends (start 0xF9 0x00 0x00 0xFF 0x00 0xC000 [0x49, 0xFF] [])
      0x06 0x00 0x00 0xFF 0x00 0xC002 [] = true := by decide
theorem test_g4_ora :
    ends (start 0x00 0x51 0x00 0xFF 0x20 0xC000 [0x05, 0x40] [(0x0040, 0x0F), (0x0051, 0xF0)])
      0x00 0x51 0x00 0xFF 0xA0 0xC002 [(0x0051, 0xFF)] = true := by decide
theorem test_g5_com :
    ends (start 0x00 0x00 0x00 0xFF 0x00 0xC000 [0x44, 0x40] [(0x0040, 0xFF)])
      0x00 0x00 0x00 0xFF 0x02 0xC002 [(0x0040, 0x00)] = true := by decide
theorem test_g6_bit :
    ends (start 0x3F 0x00 0x00 0xFF 0x00 0xC000 [0x24, 0x40] [(0x0040, 0xC0)])
      0x3F 0x00 0x00 0xFF 0xC2 0xC002 [] = true := by decide
theorem test_g7_bit :
    ends (start 0x01 0x00 0x00 0xFF 0xC2 0xC000 [0x2C, 0x34, 0x12] [(0x1234, 0x01)])
      0x01 0x00 0x00 0xFF 0x00 0xC003 [] = true := by decide
theorem test_g8_tst :
    ends (start 0x00 0x00 0x00 0xFF 0x80 0xC000 [0x64, 0x40] [(0x0040, 0x00)])
      0x00 0x00 0x00 0xFF 0x02 0xC002 [] = true := by decide
theorem test_g9_asl :
    ends (start 0x80 0x00 0x00 0xFF 0x00 0xC000 [0x0A] [])
      0x00 0x00 0x00 0xFF 0x03 0xC001 [] = true := by decide
theorem test_g10_asl :
    ends (start 0x00 0x01 0x00 0xFF 0x00 0xC000 [0x16, 0x40] [(0x0041, 0x41)])
      0x00 0x01 0x00 0xFF 0x80 0xC002 [(0x0041, 0x82)] = true := by decide
theorem test_g11_lsr :
    ends (start 0x01 0x00 0x00 0xFF 0x80 0xC000 [0x4A] [])
      0x00 0x00 0x00 0xFF 0x03 0xC001 [] = true := by decide
theorem test_g13_rol :
    ends (start 0x80 0x00 0x00 0xFF 0x00 0xC000 [0x2A] [])
      0x00 0x00 0x00 0xFF 0x03 0xC001 [] = true := by decide
theorem test_g14_ror :
    ends (start 0x01 0x00 0x00 0xFF 0x01 0xC000 [0x6A] [])
      0x80 0x00 0x00 0xFF 0x81 0xC001 [] = true := by decide
theorem test_g15_ror :
    ends (start 0x00 0x00 0x00 0xFF 0x00 0xC000 [0x6E, 0x34, 0x12] [(0x1234, 0x01)])
      0x00 0x00 0x00 0xFF 0x03 0xC003 [(0x1234, 0x00)] = true := by decide
theorem test_g16_rrf :
    ends (start 0x00 0x00 0x00 0xFF 0x83 0xC000 [0x82, 0x40] [(0x0040, 0x3C)])
      0x00 0x00 0x00 0xFF 0x83 0xC002 [(0x0040, 0xC3)] = true := by decide
theorem test_b1_clb :
    ends (start 0x00 0x00 0x00 0xFF 0x00 0xC000 [0xBF, 0x44] [(0x0044, 0xFF)])
      0x00 0x00 0x00 0xFF 0x00 0xC002 [(0x0044, 0xDF)] = true := by decide
theorem test_b2_clb :
    ends (start 0x20 0x00 0x00 0xFF 0x00 0xC000 [0xBB] [])
      0x00 0x00 0x00 0xFF 0x00 0xC001 [] = true := by decide
theorem test_b3_seb :
    ends (start 0x00 0x00 0x00 0xFF 0x00 0xC000 [0x0F, 0x44] [(0x0044, 0x00)])
      0x00 0x00 0x00 0xFF 0x00 0xC002 [(0x0044, 0x01)] = true := by decide
theorem test_b4_seb :
    ends (start 0x00 0x00 0x00 0xFF 0x00 0xC000 [0xEB] [])
      0x80 0x00 0x00 0xFF 0x00 0xC001 [] = true := by decide
theorem test_f1_clc :
    ends (start 0x00 0x00 0x00 0xFF 0xFF 0xC000 [0x18] [])
      0x00 0x00 0x00 0xFF 0xFE 0xC001 [] = true := by decide
theorem test_f2_sec :
    ends (start 0x00 0x00 0x00 0xFF 0x00 0xC000 [0x38] [])
      0x00 0x00 0x00 0xFF 0x01 0xC001 [] = true := by decide
theorem test_f3_cld :
    ends (start 0x00 0x00 0x00 0xFF 0xFF 0xC000 [0xD8] [])
      0x00 0x00 0x00 0xFF 0xF7 0xC001 [] = true := by decide
theorem test_f4_sed :
    ends (start 0x00 0x00 0x00 0xFF 0x00 0xC000 [0xF8] [])
      0x00 0x00 0x00 0xFF 0x08 0xC001 [] = true := by decide
theorem test_f5_cli :
    ends (start 0x00 0x00 0x00 0xFF 0xFF 0xC000 [0x58] [])
      0x00 0x00 0x00 0xFF 0xFB 0xC001 [] = true := by decide
theorem test_f6_sei :
    ends (start 0x00 0x00 0x00 0xFF 0x00 0xC000 [0x78] [])
      0x00 0x00 0x00 0xFF 0x04 0xC001 [] = true := by decide
theorem test_f7_clt :
    ends (start 0x00 0x00 0x00 0xFF 0xFF 0xC000 [0x12] [])
      0x00 0x00 0x00 0xFF 0xDF 0xC001 [] = true := by decide
theorem test_f8_set :
    ends (start 0x00 0x00 0x00 0xFF 0x00 0xC000 [0x32] [])
      0x00 0x00 0x00 0xFF 0x20 0xC001 [] = true := by decide
theorem test_f9_clv :
    ends (start 0x00 0x00 0x00 0xFF 0xFF 0xC000 [0xB8] [])
      0x00 0x00 0x00 0xFF 0xBF 0xC001 [] = true := by decide
theorem test_j2_jmp :
    ends (start 0x00 0x00 0x00 0xFF 0x00 0xC000 [0x6C, 0x34, 0x12] [(0x1234, 0x78), (0x1235, 0x56)])
      0x00 0x00 0x00 0xFF 0x00 0x5678 [] = true := by decide
theorem test_j3_jmp : refusesWith (start 0x00 0x00 0x00 0xFF 0x00 0xC000 [0x6C, 0xFF, 0x12] [(0x1200, 0x56), (0x12FF, 0x78), (0x1300, 0x57)]) .jmpIndirectPageEnd = true := by decide
theorem test_j4_jmp :
    ends (start 0x00 0x00 0x00 0xFF 0x00 0xC000 [0xB2, 0x40] [(0x0040, 0x00), (0x0041, 0xD0)])
      0x00 0x00 0x00 0xFF 0x00 0xD000 [] = true := by decide
theorem test_j5_bra :
    ends (start 0x00 0x00 0x00 0xFF 0x00 0xC000 [0x80, 0x10] [])
      0x00 0x00 0x00 0xFF 0x00 0xC012 [] = true := by decide
theorem test_j6_bra :
    ends (start 0x00 0x00 0x00 0xFF 0x00 0xC000 [0x80, 0xFE] [])
      0x00 0x00 0x00 0xFF 0x00 0xC000 [] = true := by decide
theorem test_j7_jsr :
    ends (start 0x00 0x00 0x00 0xFF 0x00 0xC000 [0x20, 0x34, 0x12] [])
      0x00 0x00 0x00 0xFD 0x00 0x1234 [(0x01FF, 0xC0), (0x01FE, 0x02)] = true := by decide
theorem test_j8_jsr :
    ends (start 0x00 0x00 0x00 0xFF 0x00 0xC000 [0x22, 0xC0] [])
      0x00 0x00 0x00 0xFD 0x00 0xFFC0 [(0x01FF, 0xC0), (0x01FE, 0x01)] = true := by decide
theorem test_j9_jsr :
    ends (start 0x00 0x00 0x00 0xFF 0x00 0xC000 [0x02, 0x40] [(0x0040, 0x00), (0x0041, 0xD0)])
      0x00 0x00 0x00 0xFD 0x00 0xD000 [(0x01FF, 0xC0), (0x01FE, 0x01)] = true := by decide
theorem test_j10_jsr :
    ends (start 0x00 0x00 0x00 0x00 0x00 0xC000 [0x20, 0x34, 0x12] [])
      0x00 0x00 0x00 0xFE 0x00 0x1234 [(0x0100, 0xC0), (0x01FF, 0x02)] = true := by decide
theorem test_j12_rts :
    ends (start 0x00 0x00 0x00 0xFD 0x00 0xC000 [0x60] [(0x01FE, 0xFF), (0x01FF, 0xFF)])
      0x00 0x00 0x00 0xFF 0x00 0x0000 [] = true := by decide
theorem test_j13_rti :
    ends (start 0x00 0x00 0x00 0xFC 0x04 0xC000 [0x40] [(0x01FD, 0x21), (0x01FE, 0x05), (0x01FF, 0xC0)])
      0x00 0x00 0x00 0xFF 0x21 0xC005 [] = true := by decide
theorem test_j14_bbc :
    ends (start 0x00 0x00 0x00 0xFF 0x00 0xC010 [0xB7, 0x04, 0xF1] [(0x0004, 0x00)])
      0x00 0x00 0x00 0xFF 0x00 0xC004 [] = true := by decide
theorem test_j16_bbs :
    ends (start 0x01 0x00 0x00 0xFF 0x00 0xC000 [0x03, 0x05] [])
      0x01 0x00 0x00 0xFF 0x00 0xC007 [] = true := by decide
theorem test_j18_bcc :
    ends (start 0x00 0x00 0x00 0xFF 0x00 0xC020 [0x90, 0xF2] [])
      0x00 0x00 0x00 0xFF 0x00 0xC014 [] = true := by decide
theorem test_j20_bcs :
    ends (start 0x00 0x00 0x00 0xFF 0x01 0xC000 [0xB0, 0x02] [])
      0x00 0x00 0x00 0xFF 0x01 0xC004 [] = true := by decide
theorem test_j21_bne :
    ends (start 0x00 0x00 0x00 0xFF 0x00 0xC005 [0xD0, 0xFD] [])
      0x00 0x00 0x00 0xFF 0x00 0xC004 [] = true := by decide
theorem test_j23_bpl :
    ends (start 0x00 0x00 0x00 0xFF 0x00 0xC000 [0x10, 0x80] [])
      0x00 0x00 0x00 0xFF 0x00 0xBF82 [] = true := by decide
theorem test_j24_bmi :
    ends (start 0x00 0x00 0x00 0xFF 0x80 0xC000 [0x30, 0x04] [])
      0x00 0x00 0x00 0xFF 0x80 0xC006 [] = true := by decide
theorem test_j25_bvc :
    ends (start 0x00 0x00 0x00 0xFF 0x40 0xC000 [0x50, 0x04] [])
      0x00 0x00 0x00 0xFF 0x40 0xC002 [] = true := by decide
theorem test_j26_bvs :
    ends (start 0x00 0x00 0x00 0xFF 0x40 0xC000 [0x70, 0x04] [])
      0x00 0x00 0x00 0xFF 0x40 0xC006 [] = true := by decide
theorem test_j27_beq :
    ends (start 0x00 0x00 0x00 0xFF 0x02 0xFFFE [0xF0, 0x02] [])
      0x00 0x00 0x00 0xFF 0x02 0x0002 [] = true := by decide
theorem test_s1_brk :
    ends (start 0x00 0x00 0x00 0xFF 0x21 0xC100 [0x00] [(0xFFDC, 0x00), (0xFFDD, 0xE0)])
      0x00 0x00 0x00 0xFC 0x35 0xE000 [(0x01FF, 0xC1), (0x01FE, 0x02), (0x01FD, 0x31)] = true := by decide
theorem test_s3_wit :
    endsIn .waiting (start 0x00 0x00 0x00 0xFF 0x00 0xC000 [0xC2] [])
      0x00 0x00 0x00 0xFF 0x00 0xC001 [] = true := by decide
theorem test_s4_stp :
    endsIn .stopped (start 0x00 0x00 0x00 0xFF 0x00 0xC000 [0x42] [])
      0x00 0x00 0x00 0xFF 0x00 0xC001 [] = true := by decide
theorem test_s5_nop :
    ends (start 0x00 0x00 0x00 0xFF 0xFF 0xC000 [0xEA] [])
      0x00 0x00 0x00 0xFF 0xFF 0xC001 [] = true := by decide
theorem test_s6_undefined : refusesWith (start 0x00 0x00 0x00 0xFF 0x00 0xC000 [0x04] []) (.undefinedOpcode 0x04) = true := by decide

/-- Vectors A10 and A16: the decimal carry of 99 + 01, and the decimal borrow of 00 - 01. -/
theorem test_a10_carry : (addDec 0 0x99 0x01 false).c = true := by decide
theorem test_a16_borrow : (subDec 0 0x00 0x01 true).c = false := by decide

/-- Vectors A24 to A26: DIV by 0 and DIV with a quotient of 256 complete, with S decremented. -/
def endsDiv (s : State) : Bool :=
  match step s with
  | .next t => t.sp == 0xFE && t.pc == 0xC002 && t.ps == s.ps
  | .fault _ | .refused _ => false
theorem test_a24_div_zero :
    endsDiv (start 0x00 0x00 0x00 0xFF 0x00 0xC000 [0xE2, 0x40] [(0x0040, 0x01), (0x0041, 0x00)]) = true := by decide
theorem test_a25_div_large :
    endsDiv (start 0x02 0x00 0x00 0xFF 0x00 0xC000 [0xE2, 0x40] [(0x0040, 0x00), (0x0041, 0x02)]) = true := by decide

/-! ## Witnesses: for each statement with hypotheses, a state and operands that meet them -/

/-- The state of vector A1: `69 A5` with A = 10 and C = 1. -/
def wAdc : State := start 0x10 0x00 0x00 0xFF 0x01 0xC000 [0x69, 0xA5] []

/-- A state that runs the given code with the given PS. -/
def wCode (ps : Byte) (code : List Byte) : State := start 0x10 0x00 0x00 0xFF ps 0xC000 code []

/-- A state with one interrupt source, its request pending and enabled. -/
def wIrq (ps : Byte) : State :=
  { wCode ps [0xEA] with
    pending := [true], enabled := [true], cfg := { resetConfig with irqTable := [⟨"timer", 0xFFF4, true⟩] } }

/-- A state that waits, with I = 1. -/
def wWait : State := { wCode 0x04 [0xEA] with runState := .waiting }

theorem witness_EncodeDecodeAgree : decode [0xAD#8, 0x12#8, 0xAD#8, 0xFF#8] = .ok (.ldaAbs 0xAD12, [0xFF#8]) := by rfl

/-- The first and the last undefined byte. -/
theorem witness_UndefinedOpcodesRefused :
    (wCode 0 [0x04]).runState = .running ∧ (wCode 0 [0x04]).acceptedRequest = none ∧
    (wCode 0 [0x04]).read .fetch (wCode 0 [0x04]).pc ∈ undefinedOpcodes ∧
    (wCode 0 [0xFC]).read .fetch (wCode 0 [0xFC]).pc ∈ undefinedOpcodes := by decide

theorem witness_StepRunsDecodedInstruction :
    wAdc.runState = .running ∧ wAdc.acceptedRequest = none ∧
    ∃ rest, decode wAdc.fetchBytes = .ok (.adcImm 0xA5, rest) := ⟨by decide, by decide, _, by rfl⟩

theorem witness_LoadedInstructionRuns :
    State.reset.runState = .running ∧ State.reset.acceptedRequest = none ∧
    ∀ n < 3, State.reset.kindAt (State.reset.pc + BitVec.ofNat 16 n) = .ram ∨
      State.reset.kindAt (State.reset.pc + BitVec.ofNat 16 n) = .rom := by decide

theorem witness_StepKeepsInvariant : wAdc.Inv ∧ ∃ t, step wAdc = .next t :=
  ⟨⟨by decide, by rfl, by rfl⟩, _, by rfl⟩

/-- A step that leaves a request pending: NOP with the request masked by I. -/
theorem witness_StepKeepsParametersAndEnables :
    ∃ t, step (wIrq 0x04) = .next t ∧ t.pending.getD 0 false = true := ⟨_, by rfl, by rfl⟩

theorem witness_OnlyCliPlpRtiClearI :
    ∃ t, step (wCode 0x04 [0x58]) = .next t ∧ (wCode 0x04 [0x58]).flag .i = true ∧ t.flag .i = false :=
  ⟨_, by rfl, by rfl, by rfl⟩

theorem witness_FlagsWrittenAsTabulated :
    (∃ t, exec .nop wAdc = .next t) ∧ Instr.nop.mnemonic ∉ flagWriters .c ∧ Instr.clc.mnemonic ∉ flagWriters .d ∧
    ∃ t, exec .clc { wAdc with decPending := true } = .next t := ⟨⟨_, by rfl⟩, by decide, by decide, _, by rfl⟩

theorem witness_RegistersWrittenAsListed :
    (∃ t, exec (.ldaImm 0x12) (wCode 0x20 []) = .next t) ∧ (Instr.ldaImm 0x12).mnemonic ∉ regWriters .x ∧
    (wCode 0x20 []).flag .t = true ∧ (Instr.ldaImm 0x12).mnemonic ∈ ["LDA", "ADC", "SBC", "AND", "ORA", "EOR"] :=
  ⟨⟨_, by rfl⟩, by decide, by decide, by decide⟩

/-- WIT and STP leave `running`; a waiting CPU takes a step. -/
theorem witness_RunStateChanges :
    (∃ t, step (wCode 0 [0xC2]) = .next t ∧ (wCode 0 [0xC2]).runState = .running ∧ t.runState ≠ .running) ∧
    (∃ t, step (wCode 0 [0x42]) = .next t ∧ (wCode 0 [0x42]).runState = .running ∧ t.runState ≠ .running) ∧
    ∃ t, step wWait = .next t ∧ wWait.runState ≠ .running :=
  ⟨⟨_, by rfl, by decide, by decide⟩, ⟨_, by rfl, by decide, by decide⟩, _, by rfl, by decide⟩

theorem witness_HiddenStateAfterInstruction :
    (∃ t, exec (.adcImm 0x01) (wCode 0x08 []) = .next t) ∧ (wCode 0x08 []).flag .d = true ∧
    (∃ t, exec .cli wAdc = .next t) ∧ Instr.cli.mnemonic ∈ ["CLI", "SEI", "PLP", "RTI"] ∧
    (∃ t, exec .nop wAdc = .next t) ∧ Instr.nop.mnemonic ∉ ["CLI", "SEI", "PLP", "RTI"] :=
  ⟨⟨_, by rfl⟩, by decide, ⟨_, by rfl⟩, by decide, ⟨_, by rfl⟩, by decide⟩

/-- S at its two ends: stack cells 01FF and 0100 are RAM. -/
theorem witness_PushAndPull :
    wAdc.kindAt (wAdc.stackAddr wAdc.sp) = .ram ∧ wAdc.kindAt (wAdc.stackAddr 0x00) = .ram := by decide

/-- A memory operand has an address. -/
theorem witness_EffectiveAddresses : (Operand.zpx 0x5E).ea wAdc = some 0x005E := by decide

/-- One form of each list, and LDA with both values of T. -/
theorem witness_forms_transfer :
    (Instr.ldaImm 0x12, Operand.imm 0x12) ∈ ldaForms 0x12 0x40 0xAD12 ∧
    (Instr.ldxZpy 0x40, Operand.zpy 0x40) ∈ ldxForms 0x12 0x40 0xAD12 ∧
    (Instr.ldyZpx 0x40, Operand.zpx 0x40) ∈ ldyForms 0x12 0x40 0xAD12 ∧
    (Instr.staAbsx 0xAD12, Operand.absx 0xAD12) ∈ staForms 0x12 0x40 0xAD12 ∧
    (Instr.stxZpy 0x40, Operand.zpy 0x40) ∈ stxForms 0x12 0x40 0xAD12 ∧
    (Instr.styZpx 0x40, Operand.zpx 0x40) ∈ styForms 0x12 0x40 0xAD12 := by decide

theorem witness_forms_arith :
    (Instr.incAcc, Operand.acc) ∈ incForms 0x12 0x40 0xAD12 ∧
    (Instr.decAbsx 0xAD12, Operand.absx 0xAD12) ∈ decForms 0x12 0x40 0xAD12 ∧
    (Instr.cmpIndx 0x40, Operand.indx 0x40) ∈ cmpForms 0x12 0x40 0xAD12 ∧
    (Instr.cpxZp 0x40, Operand.zp 0x40) ∈ cpxForms 0x12 0x40 0xAD12 ∧
    (Instr.cpyZp 0x40, Operand.zp 0x40) ∈ cpyForms 0x12 0x40 0xAD12 := by decide

theorem witness_forms_logic :
    (Instr.andIndy 0x40, Operand.indy 0x40) ∈ andForms 0x12 0x40 0xAD12 ∧
    (Instr.oraAbsy 0xAD12, Operand.absy 0xAD12) ∈ oraForms 0x12 0x40 0xAD12 ∧
    (Instr.eorImm 0x12, Operand.imm 0x12) ∈ eorForms 0x12 0x40 0xAD12 ∧
    (Instr.bitAbs 0xAD12, Operand.abs 0xAD12) ∈ bitForms 0x12 0x40 0xAD12 := by decide

theorem witness_forms_shift :
    (Instr.aslAcc, Operand.acc) ∈ aslForms 0x12 0x40 0xAD12 ∧
    (Instr.lsrZpx 0x40, Operand.zpx 0x40) ∈ lsrForms 0x12 0x40 0xAD12 ∧
    (Instr.rolAcc, Operand.acc) ∈ rolForms 0x12 0x40 0xAD12 ∧
    (Instr.rorAbs 0xAD12, Operand.abs 0xAD12) ∈ rorForms 0x12 0x40 0xAD12 := by decide

theorem witness_T_both :
    (wCode 0x00 []).flag .t = false ∧ (wCode 0x20 []).flag .t = true := by decide

theorem witness_AdcBinary :
    wAdc.flag .d = false ∧ (Instr.adcImm 0xA5, Operand.imm 0xA5) ∈ adcForms 0xA5 0x40 0xAD12 := by decide

theorem witness_SbcBinary :
    wAdc.flag .d = false ∧ (Instr.sbcImm 0xA5, Operand.imm 0xA5) ∈ sbcForms 0xA5 0x40 0xAD12 := by decide

/-- The largest decimal numerals: A = 99 and the operand 99. -/
theorem witness_AdcDecimal :
    ({ wCode 0x08 [] with a := 0x99 } : State).flag .d = true ∧
    (Instr.adcImm 0x99, Operand.imm 0x99) ∈ adcForms 0x99 0x40 0xAD12 ∧
    isDecimal ({ wCode 0x08 [] with a := 0x99 } : State).firstOperand = true ∧
    isDecimal ((Operand.imm 0x99).value (wCode 0x08 [])) = true := by decide

/-- The smallest minuend and the largest subtrahend. -/
theorem witness_SbcDecimal :
    ({ wCode 0x08 [] with a := 0x00 } : State).flag .d = true ∧
    (Instr.sbcImm 0x99, Operand.imm 0x99) ∈ sbcForms 0x99 0x40 0xAD12 ∧
    isDecimal ({ wCode 0x08 [] with a := 0x00 } : State).firstOperand = true ∧
    isDecimal ((Operand.imm 0x99).value (wCode 0x08 [])) = true := by decide

/-- A member with MUL and one without. -/
theorem witness_MulMultiplies :
    wAdc.cfg.hasMulDiv = true ∧ ({ wAdc with cfg := bareConfig } : State).cfg.hasMulDiv = false := by decide

/-- The dividend at FE and at FF of page 0, and a quotient of 255 (0FF0 / 10). -/
theorem witness_DivDivides :
    wAdc.cfg.hasMulDiv = true ∧ ({ wAdc with cfg := bareConfig } : State).cfg.hasMulDiv = false ∧
    0xFF + wAdc.x = 0xFF#8 ∧ 0xFE + wAdc.x ≠ 0xFF#8 ∧
    (let s := start 0x10 0x00 0x00 0xFF 0x00 0xC000 [0xE2, 0xFE] [(0x00FE, 0xF0), (0x00FF, 0x0F)]
     s.a.toNat ≠ 0 ∧
     (256 * (s.read .operand (zeroPage 0xFF)).toNat + (s.read .operand (zeroPage 0xFE)).toNat) / s.a.toNat = 255) := by
  decide

/-- A memory operand of ROL in RAM. -/
theorem witness_NineRotatesRestore :
    (Instr.rolZp 0xFF, Operand.zp 0xFF) ∈ rolForms 0x12 0xFF 0xAD12 ∧
    (Operand.zp 0xFF).ea wAdc = some 0x00FF ∧ wAdc.kindAt 0x00FF = .ram ∧ Operand.acc.ea wAdc = none := by decide

theorem witness_CarryDecimalSetters :
    wAdc.decPending = false ∧ ({ wAdc with decPending := true } : State).decPending = true := by decide

/-- A pointer at the last and at the last but one address of a page. -/
theorem witness_JmpJumps : (0x12FF : Word).toNat % 256 = 255 ∧ (0x12FE : Word).toNat % 256 ≠ 255 := by decide

/-- S = 00: the three stack cells wrap inside the page and are RAM. -/
theorem witness_stack_is_ram :
    (let s := { wAdc with sp := 0x00 }
     s.kindAt (s.stackAddr s.sp) = .ram ∧ s.kindAt (s.stackAddr (s.sp - 1)) = .ram ∧
     s.kindAt (s.stackAddr (s.sp - 2)) = .ram) := by decide

/-- Branches: taken and not taken. -/
theorem witness_BranchesOnFlags : (wAdc.flag .c == true) = true ∧ (wAdc.flag .c == false) = false := by decide

/-- BRK with no request, and with one. -/
theorem witness_BrkEntersHandler :
    (∀ k < wAdc.cfg.irqTable.length, ¬(wAdc.pending.getD k false = true ∧ wAdc.enabled.getD k false = true)) ∧
    (wIrq 0).pending.getD 0 false = true ∧ (wIrq 0).enabled.getD 0 false = true := by decide

theorem witness_TakenRequestQualifies : (wIrq 0x04).flag .i = true ∧ (wIrq 0x04).oldI ≠ some false := by decide

theorem witness_InterruptEntryEffect :
    (wIrq 0).cfg.irqTable[0]? = some ⟨"timer", 0xFFF4, true⟩ ∧ (wIrq 0).pending.getD 0 false = true ∧
    (wIrq 0).enabled.getD 0 false = true ∧ (wIrq 0).flag .i = false ∧
    ∀ j < 0, ∀ f, (wIrq 0).cfg.irqTable[j]? = some f →
      ¬((wIrq 0).pending.getD j false = true ∧ (wIrq 0).enabled.getD j false = true ∧
        ((wIrq 0).runState = .stopped → f.wakesStop = true)) :=
  ⟨rfl, by decide, by decide, by decide, fun _ h => absurd h (Nat.not_lt_zero _)⟩

/-- A stopped CPU with two requests, of which the first is of a source that cannot end a stop. -/
def wStop : State :=
  { wCode 0 [0xEA] with
    runState := .stopped, pending := [true, true], enabled := [true, true],
    cfg := { resetConfig with irqTable := [⟨"timer", 0xFFF4, false⟩, ⟨"pin", 0xFFF2, true⟩] } }

/-- The second request qualifies and none before it does, since the first cannot end the stop (R302, R325). -/
theorem witness_InterruptEntryEffect_stopped :
    wStop.cfg.irqTable[1]? = some ⟨"pin", 0xFFF2, true⟩ ∧ wStop.qualifying = [1] ∧
    ∀ j < 1, ∀ f, wStop.cfg.irqTable[j]? = some f →
      ¬(wStop.pending.getD j false = true ∧ wStop.enabled.getD j false = true ∧
        (wStop.runState = .stopped → f.wakesStop = true)) := by
  refine ⟨rfl, by decide, fun j hj f hf => ?_⟩
  obtain rfl : j = 0 := by omega
  cases hf
  decide

theorem witness_WitStpSuspend :
    wAdc.cfg.hasStpWit = true ∧ ({ wAdc with cfg := bareConfig } : State).cfg.hasStpWit = false := by decide

theorem witness_MaskedSuspensionLasts :
    wWait.runState ≠ .running ∧ wWait.flag .i = true ∧ wWait.oldI ≠ some false := by decide

/-! ## Interrupts: vectors Q4 to Q6 -/

/-- The start of vector Q4 and of program P5. -/
def q4 : State :=
  { start 0x11 0x22 0x33 0xFF 0xA9 0xC002 [0x80, 0xFC] [(0xFFF4, 0x00), (0xFFF5, 0xE1)] with
    pending := [true], enabled := [true], cfg := { resetConfig with irqTable := [⟨"timer", 0xFFF4, true⟩] } }

theorem test_q4_entry :
    (let t := q4.interruptEntry 0
     t.sp = 0xFC ∧ t.ps = 0xAD ∧ t.pc = 0xE100 ∧ t.pending = [false] ∧ t.read .stack 0x01FF = 0xC0 ∧
     t.read .stack 0x01FE = 0x02 ∧ t.read .stack 0x01FD = 0xA9) := by decide

theorem test_q4_rti :
    (let t := (q4.interruptEntry 0).returnFromInterrupt
     t.sp = 0xFF ∧ t.ps = 0xA9 ∧ t.pc = 0xC002) := by decide

/-- Q5: the same request with I = 1 is not taken. -/
theorem test_q5_masked : ({ q4 with ps := 0xAD } : State).acceptedRequest = none := by decide

/-- Q7: WIT with I = 1 stays waiting. -/
theorem test_q7_waits : (match step wWait with | .next t => decide (t.runState = .waiting) | _ => false) = true := by decide

/-- Steps a reset can cut short: a BRK, a JSR, another instruction, an idle moment. -/
theorem witness_HardwareResetEffect :
    (∃ t, step (wCode 0 [0x00]) = .next t) ∧ (wCode 0 [0x00]).fetchInstr = some .brk ∧
    (∃ t, step (wCode 0 [0x20, 0x34, 0x12]) = .next t) ∧
    (wCode 0 [0x20, 0x34, 0x12]).fetchInstr = some (.jsrAbs 0x1234) ∧
    (∃ t, step wAdc = .next t) ∧ wAdc.fetchInstr = some (.adcImm 0xA5) ∧
    (∃ t, step wWait = .next t) ∧ wWait.acceptedRequest = none :=
  ⟨⟨_, by rfl⟩, by decide, ⟨_, by rfl⟩, by decide, ⟨_, by rfl⟩, by decide, ⟨_, by rfl⟩, by decide⟩

/-! ## Hardware reset in the middle of a step (R362) -/

/-- The byte memory holds at `a` after a reset that cuts the step short behind its first `n` stores. -/
def afterCut (s : State) (n a : Nat) : Option Byte :=
  match s.resetDuring n with
  | .next u => Memory.lookup u.mem a
  | .fault _ | .refused _ => none

/-- JSR at C000 cut after one push: PCH stands at 01FF, PCL is not yet at 01FE. -/
theorem test_reset_in_jsr :
    afterCut (wCode 0 [0x20, 0x34, 0x12]) 1 0x01FF = some 0xC0 ∧
    afterCut (wCode 0 [0x20, 0x34, 0x12]) 1 0x01FE = none ∧
    afterCut (wCode 0 [0x20, 0x34, 0x12]) 2 0x01FE = some 0x02 := by decide

/-- BRK at C000 with PS = 21 cut before and after its third push: PS with B = 1 and the old I (R300). -/
theorem test_reset_in_brk :
    afterCut (wCode 0x21 [0x00]) 2 0x01FE = some 0x02 ∧ afterCut (wCode 0x21 [0x00]) 2 0x01FD = none ∧
    afterCut (wCode 0x21 [0x00]) 3 0x01FD = some 0x31 := by decide

end Sys2Proof.Tests
end

section
/-! The decoder: the row an Op-Code selects, and that decoding undoes encoding. -/

namespace Sys2Proof

open Sys2Proof.Machine (mkWord lowByte highByte mkWord_highByte_lowByte)

/-! ### The row an Op-Code selects -/

/-- In a list of pairwise disjoint rows, a row whose pattern an Op-Code meets is the first one it meets. -/
theorem find?_of_rowsDisjoint {rows : List OpcodeRow} {r : OpcodeRow} {op : Byte} (hd : rowsDisjoint rows = true)
    (hr : r ∈ rows) (hop : op &&& r.mask = r.pattern) :
    rows.find? (fun q => op &&& q.mask == q.pattern) = some r := by
  induction rows with
  | nil => cases hr
  | cons q rest ih =>
    obtain ⟨hq, hrest⟩ : rest.all q.disjoint = true ∧ rowsDisjoint rest = true := by
      simpa [rowsDisjoint] using hd
    rcases List.mem_cons.1 hr with rfl | hr
    · simp [hop]
    · have hne : ¬op &&& q.mask = q.pattern := by
        intro hpat
        have hdis := List.all_eq_true.1 hq r hr
        rw [OpcodeRow.disjoint, ← hpat, ← hop] at hdis
        exact absurd (by ac_rfl) (bne_iff_ne.1 hdis)
      simp [hne, ih hrest hr]

/-- The row an Op-Code selects is the one row of the table whose pattern it meets (R92, R97). -/
theorem opcodeRow_eq_of_mem {r : OpcodeRow} {op : Byte} (hr : r ∈ opcodeTable) (hop : op &&& r.mask = r.pattern) :
    opcodeRow op = some r :=
  find?_of_rowsDisjoint opcodeTable_disjoint hr hop

/-! ### The decoder undoes the encoder -/

/-- A 16-bit operand is decoded from its two bytes, low byte first (R94). -/
theorem decode_wordOperand {op : Byte} {f : Word → Instr} {rest : List Byte} (w : Word)
    (h : ∀ hi lo, decode (op :: lo :: hi :: rest) = .ok (f (mkWord hi lo), rest)) :
    decode (op :: lowByte w :: highByte w :: rest) = .ok (f w, rest) := by
  rw [h, mkWord_highByte_lowByte]

/-- The five bits below the bit number of a bit instruction's Op-Code (R95). -/
theorem bitNo_append_and_mask (b : BitNo) (low : BitVec 5) : (b ++ low : Byte) &&& 0x1F#8 = low.setWidth 8 := by
  decide +revert

section
variable {low : BitVec 5} {rest : List Byte}

/-- The row of a bit instruction is selected by its Op-Code, whatever the bit number (R95). -/
theorem opcodeRow_bitNo_append {len : Nat} {build : Byte → Byte → Byte → Instr} (b : BitNo)
    (hr : ⟨0x1F#8, low.setWidth 8, len, build⟩ ∈ opcodeTable) :
    opcodeRow (b ++ low) = some ⟨0x1F#8, low.setWidth 8, len, build⟩ :=
  opcodeRow_eq_of_mem hr (bitNo_append_and_mask b low)

/-- Decoding a bit instruction: its Op-Code gives the bit number back, the bytes after it are its operands (R95). -/
theorem decode_bitNo_one {f : BitNo → Instr} (b : BitNo)
    (hr : ⟨0x1F#8, low.setWidth 8, 1, fun op _ _ => f (opcodeBit op)⟩ ∈ opcodeTable) :
    decode ((b ++ low) :: rest) = .ok (f b, rest) := by
  simp [decode, opcodeRow_bitNo_append b hr]

theorem decode_bitNo_two {f : BitNo → Byte → Instr} (b : BitNo) (op1 : Byte)
    (hr : ⟨0x1F#8, low.setWidth 8, 2, fun op op1 _ => f (opcodeBit op) op1⟩ ∈ opcodeTable) :
    decode ((b ++ low) :: op1 :: rest) = .ok (f b op1, rest) := by
  simp [decode, opcodeRow_bitNo_append b hr]

theorem decode_bitNo_three {f : BitNo → Byte → Byte → Instr} (b : BitNo) (op1 op2 : Byte)
    (hr : ⟨0x1F#8, low.setWidth 8, 3, fun op op1 op2 => f (opcodeBit op) op1 op2⟩ ∈ opcodeTable) :
    decode ((b ++ low) :: op1 :: op2 :: rest) = .ok (f b op1 op2, rest) := by
  simp [decode, opcodeRow_bitNo_append b hr]

end

/-- Decoding the bytes of an instruction gives the instruction and leaves what stands after it (R91 to R98). A 16-bit
operand is put together again and a bit number read off the Op-Code; otherwise the table's search gives the operand
bytes as they stand. -/
theorem decode_encode_append (i : Instr) (rest : List Byte) : decode (encode i ++ rest) = .ok (i, rest) := by
  cases i
  case ldaAbs addr | ldaAbsy addr | ldaAbsx addr | ldxAbs addr | ldxAbsy addr | ldyAbs addr | ldyAbsx addr |
      staAbs addr | staAbsy addr | staAbsx addr | stxAbs addr | styAbs addr | adcAbs addr | adcAbsy addr |
      adcAbsx addr | sbcAbs addr | sbcAbsy addr | sbcAbsx addr | incAbs addr | incAbsx addr | decAbs addr |
      decAbsx addr | cmpAbs addr | cmpAbsy addr | cmpAbsx addr | cpxAbs addr | cpyAbs addr | andAbs addr |
      andAbsy addr | andAbsx addr | oraAbs addr | oraAbsy addr | oraAbsx addr | eorAbs addr | eorAbsy addr |
      eorAbsx addr | bitAbs addr | aslAbs addr | aslAbsx addr | lsrAbs addr | lsrAbsx addr | rolAbs addr |
      rolAbsx addr | rorAbs addr | rorAbsx addr | jmpAbs addr | jmpInd addr | jsrAbs addr =>
    exact decode_wordOperand addr fun _ _ => rfl
  case clbAcc b | sebAcc b => exact decode_bitNo_one b (by simp [opcodeTable, rowsBitManaging])
  case clbZp b zz | sebZp b zz => exact decode_bitNo_two b zz (by simp [opcodeTable, rowsBitManaging])
  case bbcAcc b disp | bbsAcc b disp => exact decode_bitNo_two b disp (by simp [opcodeTable, rowsJumpBranch])
  case bbcZp b zz disp | bbsZp b zz disp =>
    exact decode_bitNo_three b zz disp (by simp [opcodeTable, rowsJumpBranch])
  all_goals rfl

/-- An instruction has at most three bytes (R93). -/
theorem encode_length_le (i : Instr) : (encode i).length ≤ 3 := by
  cases i <;> simp [encode]

end Sys2Proof
end

section
/-! Loading an instruction from outside and running it: O5 and O6. -/

namespace Sys2Proof.Machine

/-! ### Bytes as one number -/

theorem wordOfBytes_lt (bytes : List Byte) : wordOfBytes bytes < 2 ^ (8 * bytes.length) := by
  induction bytes with
  | nil => simp [wordOfBytes]
  | cons b rest ih =>
    have hb := b.isLt
    have hpow : 2 ^ (8 * (b :: rest).length) = 256 * 2 ^ (8 * rest.length) := by
      rw [List.length_cons, Nat.mul_succ, Nat.pow_add, Nat.mul_comm]
    rw [hpow, wordOfBytes]
    omega

/-- Byte `n` of the number is byte `n` of the list; behind the last byte it is 0. -/
theorem byteOfNat_wordOfBytes (bytes : List Byte) (n : Nat) : byteOfNat (wordOfBytes bytes) n = bytes.getD n 0 := by
  induction bytes generalizing n with
  | nil => simp [byteOfNat, wordOfBytes]
  | cons b rest ih =>
    cases n with
    | zero => simp [byteOfNat, wordOfBytes, BitVec.toNat_eq, Nat.add_mul_mod_self_left, b.isLt]
    | succ n =>
      have hdiv : (b.toNat + 256 * wordOfBytes rest) / 256 ^ (n + 1) = wordOfBytes rest / 256 ^ n := by
        have hb := b.isLt
        rw [Nat.pow_succ', ← Nat.div_div_eq_div_mul]
        congr 1
        omega
      rw [List.getD_cons_succ, ← ih, byteOfNat, wordOfBytes, hdiv, byteOfNat]

/-- Up to three bytes, each read at its place in the number, and zeros behind them. -/
theorem bytes_of_wordOfBytes {bytes : List Byte} (h : bytes.length ≤ 3) :
    [byteOfNat (wordOfBytes bytes) 0, byteOfNat (wordOfBytes bytes) 1, byteOfNat (wordOfBytes bytes) 2] =
      bytes ++ List.replicate (3 - bytes.length) 0 := by
  simp only [byteOfNat_wordOfBytes]
  match bytes, h with
  | [], _ | [_], _ | [_, _], _ | [_, _, _], _ => rfl

/-! ### Loading at the PC -/

section
variable (s : State) (nbits w : Nat)

@[simp] theorem State.withFetchWord_pc : (s.withFetchWord nbits w).pc = s.pc := rfl
@[simp] theorem State.withFetchWord_runState : (s.withFetchWord nbits w).runState = s.runState := rfl
@[simp] theorem State.withFetchWord_acceptedRequest :
    (s.withFetchWord nbits w).acceptedRequest = s.acceptedRequest := rfl

end

/-- Where the three cells at the PC hold RAM or ROM, the bytes loaded there are the ones fetched (R76). -/
theorem State.fetchBytes_withFetchWord {s : State} (nbits w : Nat)
    (hk : ∀ n < 3, s.kindAt (s.pc + BitVec.ofNat 16 n) = .ram ∨ s.kindAt (s.pc + BitVec.ofNat 16 n) = .rom) :
    (s.withFetchWord nbits w).fetchBytes =
      [byteOfNat (w % 2 ^ nbits) 0, byteOfNat (w % 2 ^ nbits) 1, byteOfNat (w % 2 ^ nbits) 2] := by
  have hk0 : s.kindAt s.pc = .ram ∨ s.kindAt s.pc = .rom := by simpa using hk 0 (by omega)
  have hk1 : s.kindAt (s.pc + 1) = .ram ∨ s.kindAt (s.pc + 1) = .rom := hk 1 (by omega)
  have hk2 : s.kindAt (s.pc + 2) = .ram ∨ s.kindAt (s.pc + 2) = .rom := hk 2 (by omega)
  have h01 : s.pc ≠ s.pc + 1 := by bv_omega
  have h02 : s.pc ≠ s.pc + 2 := by bv_omega
  have h12 : s.pc + 1 ≠ s.pc + 2 := by bv_omega
  rw [State.fetchBytes, State.withFetchWord_pc, State.withFetchWord, State.loadInstr]
  rw [State.read_load_ne _ _ h02, State.read_load_ne _ _ h01, State.read_load_ne _ _ h12, State.read_load _ _ hk0,
    State.read_load, State.read_load]
  exacts [hk2, hk1]

/-- An instruction loaded at the PC is the one fetched (R76, R92). -/
theorem State.decode_fetchBytes_of_loaded {s : State} (i : Instr)
    (hk : ∀ n < 3, s.kindAt (s.pc + BitVec.ofNat 16 n) = .ram ∨ s.kindAt (s.pc + BitVec.ofNat 16 n) = .rom) :
    decode (s.withFetchWord (8 * (encode i).length) (wordOfBytes (encode i))).fetchBytes =
      .ok (i, List.replicate (3 - (encode i).length) 0) := by
  rw [State.fetchBytes_withFetchWord _ _ hk, Nat.mod_eq_of_lt (wordOfBytes_lt _),
    bytes_of_wordOfBytes (encode_length_le i), decode_encode_append]

/-! ### The step of a running CPU -/

theorem State.fetchInstr_of_decode {s : State} {i : Instr} {rest : List Byte}
    (h : decode s.fetchBytes = .ok (i, rest)) : s.fetchInstr = some i := by
  simp [State.fetchInstr, h]

theorem step_of_fetchInstr {s : State} {i : Instr} (hr : s.runState = .running) (ha : s.acceptedRequest = none)
    (hf : s.fetchInstr = some i) : step s = tickResult (exec i s) := by
  simp only [step, cpuStep, ha, hr, runInstr, hf]

/-- Settles O5: the bytes at the PC give the instruction fetched, and a running CPU executes that one. -/
theorem stepRunsDecodedInstruction : Obligations.StepRunsDecodedInstruction := by
  intro s i rest hr ha hd
  exact step_of_fetchInstr hr ha (State.fetchInstr_of_decode hd)

/-- Settles O6: the load touches neither the run state nor the requests, and what is fetched after it decodes to the
instruction loaded, so O5 gives the step. -/
theorem loadedInstructionRuns : Obligations.LoadedInstructionRuns := by
  intro s i hr ha hk
  exact stepRunsDecodedInstruction _ i _ (by simpa using hr) (by simpa using ha)
    (State.decode_fetchBytes_of_loaded i hk)

end Sys2Proof.Machine
end

section
/-! What no step changes: the parameters, the enable bits and the requests (O10). -/

namespace Sys2Proof.Machine

/-- What an instruction leaves alone whatever it does: the parameters (R7, D2), the enable bits, the request bits, and
the model's counter of free values (log 11). -/
structure SameSurroundings (s t : State) : Prop where
  cfg : t.cfg = s.cfg
  enabled : t.enabled = s.enabled
  pending : t.pending = s.pending
  draws : t.draws = s.draws

/-- An operation that answers `.next u` keeps the surroundings when `u` does; where `u` is written with the named
updates of the state, their own lemmas say so. -/
theorem SameSurroundings.of_next {s t u : State} (h : (.next u : Result) = .next t)
    (hu : SameSurroundings s u := by constructor <;> simp) : SameSurroundings s t := by
  cases h
  exact hu

/-! ### The operations that choose between two answers -/

section
variable {s t : State}

theorem sameSurroundings_opSetFlagAfterDecimal {f : Flag} {v : Bool} (h : opSetFlagAfterDecimal f v s = .next t) :
    SameSurroundings s t := by
  unfold opSetFlagAfterDecimal at h
  split at h
  all_goals exact .of_next h

theorem sameSurroundings_opBranch {taken : Bool} {len : Nat} {disp : Byte} (h : opBranch taken len disp s = .next t) :
    SameSurroundings s t := by
  cases taken
  all_goals exact .of_next h

theorem sameSurroundings_opSuspend {r : RunState} {op : Byte} (h : opSuspend r op s = .next t) :
    SameSurroundings s t := by
  unfold opSuspend at h
  split at h
  · exact .of_next h
  · cases h

theorem sameSurroundings_opMul {zz : Byte} (h : opMul zz s = .next t) : SameSurroundings s t := by
  unfold opMul at h
  split at h
  · exact .of_next h
  · cases h

theorem sameSurroundings_opDiv {zz : Byte} (h : opDiv zz s = .next t) : SameSurroundings s t := by
  simp only [opDiv] at h
  split at h
  · split at h
    · cases h
    · exact .of_next h
  · cases h

theorem sameSurroundings_jmpInd {addr : Word} (h : execJmpInd addr s = .next t) : SameSurroundings s t := by
  unfold execJmpInd at h
  split at h
  · cases h
  · exact .of_next h

end

/-! ### Every instruction -/

/-- No instruction changes a parameter, an enable bit or a request, and none moves the counter of free values.
Those that choose or refuse have their lemma above; every other one answers a single state written with the named
updates. -/
theorem exec_sameSurroundings {i : Instr} {s t : State} (h : exec i s = .next t) : SameSurroundings s t := by
  cases i
  case clc | sec | cld => exact sameSurroundings_opSetFlagAfterDecimal h
  case bbcAcc | bbcZp | bbsAcc | bbsZp | bcc | bcs | bne | beq | bpl | bmi | bvc | bvs =>
    exact sameSurroundings_opBranch h
  case wit | stp => exact sameSurroundings_opSuspend h
  case mulZpx => exact sameSurroundings_opMul h
  case divZpx => exact sameSurroundings_opDiv h
  case jmpInd => exact sameSurroundings_jmpInd h
  all_goals exact .of_next h

/-! ### The whole step -/

/-- Dropping a request raises none. -/
theorem getD_of_getD_set_false {l : List Bool} {j k : Nat} (h : (l.set j false).getD k false = true) :
    l.getD k false = true := by
  simp only [List.getD_eq_getElem?_getD, List.getElem?_set] at h ⊢
  split at h
  · split at h <;> simp at h
  · exact h

/-- An interrupt entry changes of the surroundings only the request it takes, which it drops (R326, D8). -/
theorem State.interruptEntry_surroundings (s : State) (k : Nat) :
    (s.interruptEntry k).cfg = s.cfg ∧ (s.interruptEntry k).enabled = s.enabled ∧
    (s.interruptEntry k).draws = s.draws ∧ (s.interruptEntry k).pending = s.pending.set k false := by
  simp [State.interruptEntry]

/-- Settles O10, by the three kinds of a step: an entry drops one request, an instruction keeps its surroundings, and an
idle moment changes only the counter. -/
theorem stepKeepsParametersAndEnables : Obligations.StepKeepsParametersAndEnables := by
  intro s t h
  rcases step_cases h with ⟨k, -, rfl⟩ | ⟨i, u, -, -, -, hexec, rfl⟩ | ⟨-, -, rfl⟩
  · obtain ⟨hcfg, henabled, hdraws, hpending⟩ := s.interruptEntry_surroundings k
    refine ⟨by simp [hcfg], by simp [henabled], by simp [hdraws], fun j hj => ?_⟩
    rw [State.tick_pending, hpending] at hj
    exact getD_of_getD_set_false hj
  · have hu := exec_sameSurroundings hexec
    exact ⟨by simp [hu.cfg], by simp [hu.enabled], by simp [hu.draws], fun j hj => by simpa [hu.pending] using hj⟩
  · exact ⟨rfl, rfl, rfl, fun _ hj => hj⟩

end Sys2Proof.Machine
end

section
/-! The invariant of the machine: it holds after reset (O8, with O9) and every step keeps it (O7). -/

namespace Sys2Proof.Machine

/-! ### Memory stays in canonical form -/

/-- An instruction keeps the canonical form of memory: BRK and JSR make their pushes, every other one makes one store
or none (R70). -/
theorem exec_wf {i : Instr} {s t : State} (hm : Memory.wf s.mem) (h : exec i s = .next t) : Memory.wf t.mem := by
  by_cases hp : pushSequence i s = []
  · obtain ⟨a, v, hsame | hstore⟩ := storesAtMostOne hp h
    · rwa [hsame]
    · rw [hstore]
      exact State.write_wf a v hm
  · rw [pushSequence_mem hp h]
    exact State.pushAll_wf _ hm

/-! ### The invariant -/

/-- An instruction changes neither the request bits, nor the enable bits, nor IRQ_TABLE. -/
theorem exec_inv {i : Instr} {s t : State} (hs : s.Inv) (h : exec i s = .next t) : t.Inv := by
  obtain ⟨hmem, hpending, henabled⟩ := hs
  have same := exec_sameSurroundings h
  refine ⟨exec_wf hmem h, ?_, ?_⟩
  · rw [same.pending, same.cfg, hpending]
  · rw [same.enabled, same.cfg, henabled]

/-- An interrupt entry pushes three bytes and writes one request bit in its place (R326). -/
theorem State.interruptEntry_inv {s : State} (k : Nat) (hs : s.Inv) : (s.interruptEntry k).Inv := by
  obtain ⟨hmem, hpending, henabled⟩ := hs
  obtain ⟨hcfg, hen, -, hpend⟩ := s.interruptEntry_surroundings k
  refine ⟨?_, ?_, ?_⟩
  · rw [State.interruptEntry, State.setPending_mem]
    exact State.enterInterrupt_wf false s.pc _ hmem
  · rw [hpend, List.length_set, hcfg, hpending]
  · rw [hen, hcfg, henabled]

/-- The counter of free values is no part of the invariant. -/
theorem State.tick_inv {s : State} (hs : s.Inv) : s.tick.Inv := hs

/-- Settles O7, by the three kinds of a step. -/
theorem stepKeepsInvariant : Obligations.StepKeepsInvariant := by
  intro s t hs h
  rcases step_cases h with ⟨k, -, rfl⟩ | ⟨i, u, -, -, -, hexec, rfl⟩ | ⟨-, -, rfl⟩
  · exact State.tick_inv (State.interruptEntry_inv k hs)
  · exact State.tick_inv (exec_inv hs hexec)
  · exact State.tick_inv hs

/-! ### The state after reset -/

/-- Settles O8: nothing is written yet, and IRQ_TABLE, the requests and the enables are empty together. -/
theorem resetMeetsInvariant : Obligations.ResetMeetsInvariant :=
  ⟨Memory.nil_wf, rfl, rfl⟩

/-- Settles O9: PS is 04 and no request or enable bit is listed, so each one reads as false (D8). -/
theorem resetState : Obligations.ResetState :=
  ⟨by decide, rfl, rfl, fun _ => List.getD_nil, fun _ => List.getD_nil⟩

end Sys2Proof.Machine
end

section
/-! One byte pushed and pulled again (O19). -/

namespace Sys2Proof.Machine

variable (s : State)

/-- The stack page is 00 or 01, as the Stack Page Selection Bit says (R25). -/
theorem State.stackPage_toNat : s.stackPage.toNat = if s.cfg.stackPageBit then 1 else 0 := by
  unfold State.stackPage
  split <;> rfl

/-- A stack address as a number (R24). -/
theorem State.stackAddr_toNat (p : Byte) :
    (s.stackAddr p).toNat = (if s.cfg.stackPageBit then 256 else 0) + p.toNat := by
  rw [State.stackAddr, toNat_mkWord, State.stackPage_toNat]
  split <;> omega

/-- What one push does (R27). -/
theorem State.push8_pushesByte (v : Byte) : PushesByte v [] [] s (s.push8 v) := by
  refine ⟨fun k => ?stored, rfl, fun r hr => ?regs, fun f _ => rfl, fun k a ha => ?mem, rfl, rfl, rfl, rfl⟩
  case stored => simp [State.read_push8]
  case regs =>
    cases r
    case s => simp at hr
    all_goals rfl
  case mem => simp [State.read_push8, List.mem_singleton.not.1 ha]

/-- S goes down by one modulo 256 (R27, D3). -/
theorem State.push8_sp_toNat (v : Byte) : (s.push8 v).sp.toNat = (s.sp.toNat + 255) % 256 := by
  rw [State.push8_sp, BitVec.toNat_sub]
  simp [Nat.add_comm]

/-- A pull right after a push restores S (R28). -/
theorem State.popped_push8_sp (v : Byte) : (s.push8 v).popped.sp = s.sp := by
  simp

/-- A pull right after a push gives the byte back where the stack cell is RAM (R27, R28, R71). -/
theorem State.pulled_push8 {s : State} (v : Byte) (h : s.kindAt (s.stackAddr s.sp) = .ram) :
    (s.push8 v).pulled = v := by
  simp [State.pulled, State.read_push8, h]

/-- Settles O19, from the rules for one push and for a pull behind it. -/
theorem pushAndPull : Obligations.PushAndPull := fun s v =>
  ⟨s.push8_pushesByte v, s.push8_sp_toNat v, s.stackAddr_toNat s.sp, s.popped_push8_sp v, State.pulled_push8 v⟩

end Sys2Proof.Machine
end

section
/-! What each instruction may change beside memory and the PC, against the spec's lists: registers, flags,
`dec_pending`, the remembered I and the run state. -/

namespace Sys2Proof.Machine

/-! ### The effect of an operation -/

/-- What an operation leaves: every register outside `rs` and every flag outside `fs` as before, and `dec_pending`, the
remembered I and the run state at the given values. -/
structure Effect (rs : List Reg) (fs : List Flag) (dec : Bool) (old : Option Bool) (run : RunState) (s t : State) :
    Prop where
  regs : KeepsRegs rs s t
  flags : KeepsFlags fs s t
  decPending : t.decPending = dec
  oldI : t.oldI = old
  runState : t.runState = run

/-- The effect of an operation that ends like most: `dec_pending` falls, no I is remembered, the run state stays. -/
abbrev PlainEffect (rs : List Reg) (fs : List Flag) (s t : State) : Prop := Effect rs fs false none s.runState s t

theorem keepsRegs_iff {rs : List Reg} {s t : State} :
    KeepsRegs rs s t ↔
      (.a ∉ rs → t.a = s.a) ∧ (.x ∉ rs → t.x = s.x) ∧ (.y ∉ rs → t.y = s.y) ∧ (.s ∉ rs → t.sp = s.sp) := by
  constructor
  · intro h
    exact ⟨h .a, h .x, h .y, h .s⟩
  · rintro ⟨ha, hx, hy, hs⟩ (_ | _ | _ | _)
    exacts [ha, hx, hy, hs]

/-- An operation that answers `.next u` has the effect `u` shows; where `u` is written with the named updates of the
state, their own lemmas say so. -/
theorem Effect.of_next {rs : List Reg} {fs : List Flag} {dec : Bool} {old : Option Bool} {run : RunState}
    {s t u : State} (h : (.next u : Result) = .next t)
    (hu : Effect rs fs dec old run s u := by constructor <;> simp +contextual [keepsRegs_iff, KeepsFlags]) :
    Effect rs fs dec old run s t := by
  cases h
  exact hu

/-- The same for an operation that ends like most, from the registers and flags it may write. -/
theorem Effect.plain (rs : List Reg) (fs : List Flag) {s t u : State} (h : (.next u : Result) = .next t)
    (hu : PlainEffect rs fs s u := by constructor <;> simp +contextual [keepsRegs_iff, KeepsFlags]) :
    PlainEffect rs fs s t := .of_next h hu

/-- Every flag of PS: what PLP and RTI write (R44). -/
def allFlags : List Flag := [.n, .v, .t, .b, .d, .i, .z, .c]

theorem mem_allFlags (f : Flag) : f ∈ allFlags := by cases f <;> decide

/-! ### Where a result goes -/

/-- The data register a T-aware instruction writes: A, or none when T is 1 (R180). -/
def targetRegs (s : State) : List Reg := if s.flag .t then [] else [.a]

theorem mem_targetRegs {s : State} {r : Reg} : r ∈ targetRegs s ↔ s.flag .t = false ∧ r = .a := by
  cases h : s.flag .t <;> simp [targetRegs, h]

theorem State.writeResult_a (s : State) (v : Byte) : (s.writeResult v).a = if s.flag .t then s.a else v := by
  unfold State.writeResult
  split <;> rfl

/-- An operand in memory is no destination in A. -/
@[simp] theorem Operand.put_a_of_ne_acc {o : Operand} (ho : o ≠ .acc) (s : State) (v : Byte) : (o.put s v).a = s.a := by
  cases o
  case acc => exact absurd rfl ho
  all_goals rfl

/-! ### The shared operations -/

section
variable {s t : State} {o : Operand}

theorem effect_opLda (h : opLda o s = .next t) : PlainEffect (targetRegs s) [.n, .z] s t := by
  refine .of_next h ?_
  constructor <;> simp +contextual [keepsRegs_iff, KeepsFlags, mem_targetRegs, State.writeResult_a]

theorem effect_opLogic {f : Byte → Byte → Byte} (h : opLogic f o s = .next t) :
    PlainEffect (targetRegs s) [.n, .z] s t := by
  refine .of_next h ?_
  constructor <;> simp +contextual [keepsRegs_iff, KeepsFlags, mem_targetRegs, State.writeResult_a]

/-- ADC and SBC leave D as `dec_pending` (R150). -/
theorem effect_opAddSub {bin : Byte → Byte → Bool → AluResult} {dec : Nat → Byte → Byte → Bool → AluResult}
    (h : opAddSub bin dec o s = .next t) :
    Effect (targetRegs s) [.n, .v, .z, .c] (s.flag .d) none s.runState s t := by
  refine .of_next h ?_
  constructor <;> simp +contextual [keepsRegs_iff, KeepsFlags, mem_targetRegs, State.writeResult_a]

theorem effect_opLdx (h : opLdx o s = .next t) : PlainEffect [.x] [.n, .z] s t := .of_next h

theorem effect_opLdy (h : opLdy o s = .next t) : PlainEffect [.y] [.n, .z] s t := .of_next h

theorem effect_opStore {v : Byte} (h : opStore v o s = .next t) (ho : o ≠ .acc := by nofun) :
    PlainEffect [] [] s t := by
  refine .of_next h ?_
  constructor <;> simp [keepsRegs_iff, KeepsFlags, ho]

theorem effect_opInc (h : opInc o s = .next t) : PlainEffect [.a] [.n, .z] s t := .of_next h

theorem effect_opDec (h : opDec o s = .next t) : PlainEffect [.a] [.n, .z] s t := .of_next h

theorem effect_opShift {f : Byte → Bool → Byte × Bool} (h : opShift f o s = .next t) :
    PlainEffect [.a] [.n, .z, .c] s t := .of_next h

theorem effect_opWriteBit {b : BitNo} {v : Bool} (h : opWriteBit b v o s = .next t) : PlainEffect [.a] [] s t :=
  .of_next h

theorem effect_opCompare {p : Byte} (h : opCompare p o s = .next t) : PlainEffect [] [.n, .z, .c] s t := .of_next h

theorem effect_opBit (h : opBit o s = .next t) : PlainEffect [] [.n, .v, .z] s t := .of_next h

theorem effect_opMul {zz : Byte} (h : opMul zz s = .next t) : PlainEffect [.a, .s] [] s t := by
  unfold opMul at h
  split at h
  · exact .of_next h
  · cases h

theorem effect_opDiv {zz : Byte} (h : opDiv zz s = .next t) : PlainEffect [.a, .s] [] s t := by
  simp only [opDiv] at h
  split at h
  · split at h
    · cases h
    · exact .of_next h
  · cases h

theorem effect_opSetFlag {f : Flag} {v : Bool} (h : opSetFlag f v s = .next t) : PlainEffect [] [f] s t := .of_next h

/-- CLC, SEC and CLD write their flag, but C and D right behind a decimal ADC or SBC (R368). -/
theorem effect_opSetFlagAfterDecimal {f : Flag} {v : Bool} (h : opSetFlagAfterDecimal f v s = .next t) :
    PlainEffect [] (if s.decPending then [.c, .d] else [f]) s t := by
  unfold opSetFlagAfterDecimal at h
  split at h
  · rename_i hdec
    rw [if_pos hdec]
    exact .of_next h
  · rename_i hdec
    rw [if_neg hdec]
    exact .of_next h

/-- CLI and SEI remember the old I (R324, log 15). -/
theorem effect_opSetI {v : Bool} (h : opSetI v s = .next t) :
    Effect [] [.i] false (some (s.flag .i)) s.runState s t := .of_next h

theorem effect_opBranch {taken : Bool} {len : Nat} {disp : Byte} (h : opBranch taken len disp s = .next t) :
    PlainEffect [] [] s t := by
  cases taken
  all_goals exact .of_next h

theorem effect_jmpInd {addr : Word} (h : execJmpInd addr s = .next t) : PlainEffect [] [] s t := by
  unfold execJmpInd at h
  split at h
  · cases h
  · exact .of_next h

/-- BRK writes B and I, and the CPU runs (R300). -/
theorem effect_brk (h : execBrk s = .next t) : Effect [.s] [.b, .i] false none .running s t := .of_next h

/-- PLP and RTI write all of PS and remember the old I (R167, R284, R324). -/
theorem effect_plp (h : execPlp s = .next t) :
    Effect [.s] allFlags false (some (s.flag .i)) s.runState s t := by
  refine .of_next h ⟨?_, fun f hf => absurd (mem_allFlags f) hf, rfl, rfl, rfl⟩
  simp [keepsRegs_iff]

theorem effect_rti (h : execRti s = .next t) :
    Effect [.s] allFlags false (some (s.flag .i)) s.runState s t := by
  refine .of_next h ⟨?_, fun f hf => absurd (mem_allFlags f) hf, rfl, rfl, rfl⟩
  simp [keepsRegs_iff]

/-- WIT and STP change the run state (R301, R302). -/
theorem effect_opSuspend {r : RunState} {op : Byte} (h : opSuspend r op s = .next t) :
    Effect [] [] false none r s t := by
  unfold opSuspend at h
  split at h
  · exact .of_next h
  · cases h

end

/-! ### The effect of an instruction, by its mnemonic -/

/-- The T-aware instructions that write A when T is 0 (R22, D19). -/
def targetAware : List String := ["LDA", "ADC", "SBC", "AND", "ORA", "EOR"]

/-- The instructions after which the old I may still count (R324, log 15). -/
def remembersI : List String := ["CLI", "SEI", "PLP", "RTI"]

/-- The run state an instruction leaves (R300 to R302). -/
def runStateAfter (m : String) (r : RunState) : RunState :=
  if m = "WIT" then .waiting else if m = "STP" then .stopped else if m = "BRK" then .running else r

/-- CLC, SEC and CLD right behind a decimal ADC or SBC may write C and D (R368, D14). -/
def DecimalHazard (m : String) (s : State) (f : Flag) : Prop :=
  s.decPending = true ∧ m ∈ ["CLC", "SEC", "CLD"] ∧ (f = .c ∨ f = .d)

/-- What the lists of the spec say of an instruction with mnemonic `m`: the registers (R22 to R28), the flags (R44,
R368), `dec_pending` (R150), and the model's `oldI` and run state. -/
structure AsListed (m : String) (s t : State) : Prop where
  reg : ∀ r, m ∉ regWriters r → t.reg r = s.reg r
  a_of_target : s.flag .t = true → m ∈ targetAware → t.a = s.a
  flag : ∀ f, m ∉ flagWriters f → DecimalHazard m s f ∨ t.flag f = s.flag f
  decPending : t.decPending = true ↔ m ∈ ["ADC", "SBC"] ∧ s.flag .d = true
  oldI : t.oldI = if m ∈ remembersI then some (s.flag .i) else none
  runState : t.runState = runStateAfter m s.runState

section
variable {rs : List Reg} {fs : List Flag} {s t : State} {dec : Bool} {old : Option Bool} {run : RunState}

/-- An effect is as listed when each register and each flag it may write is, and its other parts are those of the
mnemonic. For a given mnemonic these are closed facts, but where the effect depends on the state. -/
theorem Effect.asListed (m : String) (e : Effect rs fs dec old run s t)
    (hrs : ∀ r ∈ rs, m ∈ regWriters r := by decide)
    (htarget : s.flag .t = true → m ∈ targetAware → .a ∉ rs := by exact fun _ hm => absurd hm (by decide))
    (hfs : ∀ f ∈ fs, m ∈ flagWriters f ∨ DecimalHazard m s f := by refine fun f hf => .inl ?_; revert f; decide)
    (hdec : dec = true ↔ m ∈ ["ADC", "SBC"] ∧ s.flag .d = true := by simp)
    (hold : old = if m ∈ remembersI then some (s.flag .i) else none := by rfl)
    (hrun : run = runStateAfter m s.runState := by rfl) : AsListed m s t where
  reg r hr := e.regs r fun hmem => hr (hrs r hmem)
  a_of_target ht hm := e.regs .a (htarget ht hm)
  flag f hf := by
    by_cases hmem : f ∈ fs
    · exact .inl ((hfs f hmem).resolve_left hf)
    · exact .inr (e.flags f hmem)
  decPending := by rw [e.decPending, hdec]
  oldI := by rw [e.oldI, hold]
  runState := by rw [e.runState, hrun]

/-- A T-aware instruction is as listed: with T = 1 it writes no register (R180). -/
theorem Effect.target_asListed (m : String) (e : Effect (targetRegs s) fs dec none s.runState s t)
    (ha : m ∈ regWriters .a := by decide)
    (hfs : ∀ f ∈ fs, m ∈ flagWriters f := by decide)
    (hdec : dec = true ↔ m ∈ ["ADC", "SBC"] ∧ s.flag .d = true := by simp)
    (hold : none = if m ∈ remembersI then some (s.flag .i) else none := by rfl)
    (hrun : s.runState = runStateAfter m s.runState := by rfl) : AsListed m s t :=
  e.asListed m (hrs := fun _ hr => (mem_targetRegs.1 hr).2 ▸ ha) (htarget := fun ht _ => by simp [mem_targetRegs, ht])
    (hfs := fun f hf => .inl (hfs f hf)) (hdec := hdec) (hold := hold) (hrun := hrun)

/-- CLC, SEC and CLD are as listed: their flag is, and what they write right behind a decimal ADC or SBC is what R368
leaves open. -/
theorem asListed_opSetFlagAfterDecimal (m : String) {f : Flag} {v : Bool} (h : opSetFlagAfterDecimal f v s = .next t)
    (hf : m ∈ flagWriters f := by decide) (hm : m ∈ ["CLC", "SEC", "CLD"] := by decide)
    (hold : none = if m ∈ remembersI then some (s.flag .i) else none := by rfl)
    (hrun : s.runState = runStateAfter m s.runState := by rfl)
    (ht : m ∉ targetAware := by decide) (hdec : m ∉ ["ADC", "SBC"] := by decide) : AsListed m s t := by
  refine (effect_opSetFlagAfterDecimal h).asListed m (hrs := by simp) (htarget := fun _ h => absurd h ht)
    (hfs := fun g hg => ?_) (hdec := by simp [hdec]) (hold := hold) (hrun := hrun)
  split at hg
  · rename_i hpending
    exact .inr ⟨hpending, hm, by simpa using hg⟩
  · rw [List.mem_singleton.1 hg]
    exact .inl hf

end

/-- Every instruction is as the lists say. -/
theorem exec_asListed {i : Instr} {s t : State} (h : exec i s = .next t) : AsListed i.mnemonic s t := by
  cases i
  case ldaIndx | ldaZp | ldaImm | ldaAbs | ldaIndy | ldaZpx | ldaAbsy | ldaAbsx =>
    exact (effect_opLda h).target_asListed "LDA"
  case adcIndx | adcZp | adcImm | adcAbs | adcIndy | adcZpx | adcAbsy | adcAbsx =>
    exact (effect_opAddSub h).target_asListed "ADC"
  case sbcIndx | sbcZp | sbcImm | sbcAbs | sbcIndy | sbcZpx | sbcAbsy | sbcAbsx =>
    exact (effect_opAddSub h).target_asListed "SBC"
  case andIndx | andZp | andImm | andAbs | andIndy | andZpx | andAbsy | andAbsx =>
    exact (effect_opLogic h).target_asListed "AND"
  case oraIndx | oraZp | oraImm | oraAbs | oraIndy | oraZpx | oraAbsy | oraAbsx =>
    exact (effect_opLogic h).target_asListed "ORA"
  case eorIndx | eorZp | eorImm | eorAbs | eorIndy | eorZpx | eorAbsy | eorAbsx =>
    exact (effect_opLogic h).target_asListed "EOR"
  case ldm => exact (Effect.plain [] [] h).asListed "LDM"
  case ldxImm | ldxZp | ldxAbs | ldxZpy | ldxAbsy => exact (effect_opLdx h).asListed "LDX"
  case ldyImm | ldyZp | ldyAbs | ldyZpx | ldyAbsx => exact (effect_opLdy h).asListed "LDY"
  case staIndx | staZp | staAbs | staIndy | staZpx | staAbsy | staAbsx =>
    exact (effect_opStore h).asListed "STA"
  case stxZp | stxAbs | stxZpy => exact (effect_opStore h).asListed "STX"
  case styZp | styAbs | styZpx => exact (effect_opStore h).asListed "STY"
  case tax => exact (Effect.plain [.x] [.n, .z] h).asListed "TAX"
  case txa => exact (Effect.plain [.a] [.n, .z] h).asListed "TXA"
  case tay => exact (Effect.plain [.y] [.n, .z] h).asListed "TAY"
  case tya => exact (Effect.plain [.a] [.n, .z] h).asListed "TYA"
  case tsx => exact (Effect.plain [.x] [.n, .z] h).asListed "TSX"
  case txs => exact (Effect.plain [.s] [] h).asListed "TXS"
  case pha => exact (Effect.plain [.s] [] h).asListed "PHA"
  case php => exact (Effect.plain [.s] [] h).asListed "PHP"
  case pla => exact (Effect.plain [.a, .s] [.n, .z] h).asListed "PLA"
  case plp => exact (effect_plp h).asListed "PLP"
  case incAcc | incZp | incAbs | incZpx | incAbsx => exact (effect_opInc h).asListed "INC"
  case decAcc | decZp | decAbs | decZpx | decAbsx => exact (effect_opDec h).asListed "DEC"
  case inx => exact (Effect.plain [.x] [.n, .z] h).asListed "INX"
  case dex => exact (Effect.plain [.x] [.n, .z] h).asListed "DEX"
  case iny => exact (Effect.plain [.y] [.n, .z] h).asListed "INY"
  case dey => exact (Effect.plain [.y] [.n, .z] h).asListed "DEY"
  case mulZpx => exact (effect_opMul h).asListed "MUL"
  case divZpx => exact (effect_opDiv h).asListed "DIV"
  case cmpIndx | cmpZp | cmpImm | cmpAbs | cmpIndy | cmpZpx | cmpAbsy | cmpAbsx =>
    exact (effect_opCompare h).asListed "CMP"
  case cpxImm | cpxZp | cpxAbs => exact (effect_opCompare h).asListed "CPX"
  case cpyImm | cpyZp | cpyAbs => exact (effect_opCompare h).asListed "CPY"
  case comZp => exact (Effect.plain [] [.n, .z] h).asListed "COM"
  case bitZp | bitAbs => exact (effect_opBit h).asListed "BIT"
  case tstZp => exact (Effect.plain [] [.n, .z] h).asListed "TST"
  case aslZp | aslAcc | aslAbs | aslZpx | aslAbsx => exact (effect_opShift h).asListed "ASL"
  case lsrZp | lsrAcc | lsrAbs | lsrZpx | lsrAbsx => exact (effect_opShift h).asListed "LSR"
  case rolZp | rolAcc | rolAbs | rolZpx | rolAbsx => exact (effect_opShift h).asListed "ROL"
  case rorZp | rorAcc | rorAbs | rorZpx | rorAbsx => exact (effect_opShift h).asListed "ROR"
  case rrfZp => exact (Effect.plain [] [] h).asListed "RRF"
  case clbAcc | clbZp => exact (effect_opWriteBit h).asListed "CLB"
  case sebAcc | sebZp => exact (effect_opWriteBit h).asListed "SEB"
  case clc => exact asListed_opSetFlagAfterDecimal "CLC" h
  case sec => exact asListed_opSetFlagAfterDecimal "SEC" h
  case cld => exact asListed_opSetFlagAfterDecimal "CLD" h
  case sed => exact (effect_opSetFlag h).asListed "SED"
  case cli => exact (effect_opSetI h).asListed "CLI"
  case sei => exact (effect_opSetI h).asListed "SEI"
  case clt => exact (effect_opSetFlag h).asListed "CLT"
  case set => exact (effect_opSetFlag h).asListed "SET"
  case clv => exact (effect_opSetFlag h).asListed "CLV"
  case jmpAbs | jmpZpind => exact (Effect.plain [] [] h).asListed "JMP"
  case jmpInd => exact (effect_jmpInd h).asListed "JMP"
  case bra => exact (Effect.plain [] [] h).asListed "BRA"
  case jsrZpind | jsrAbs | jsrSp => exact (Effect.plain [.s] [] h).asListed "JSR"
  case rts => exact (Effect.plain [.s] [] h).asListed "RTS"
  case rti => exact (effect_rti h).asListed "RTI"
  case bbcAcc | bbcZp => exact (effect_opBranch h).asListed "BBC"
  case bbsAcc | bbsZp => exact (effect_opBranch h).asListed "BBS"
  case bcc => exact (effect_opBranch h).asListed "BCC"
  case bcs => exact (effect_opBranch h).asListed "BCS"
  case bne => exact (effect_opBranch h).asListed "BNE"
  case beq => exact (effect_opBranch h).asListed "BEQ"
  case bpl => exact (effect_opBranch h).asListed "BPL"
  case bmi => exact (effect_opBranch h).asListed "BMI"
  case bvc => exact (effect_opBranch h).asListed "BVC"
  case bvs => exact (effect_opBranch h).asListed "BVS"
  case brk => exact (effect_brk h).asListed "BRK"
  case wit => exact (effect_opSuspend h).asListed "WIT"
  case stp => exact (effect_opSuspend h).asListed "STP"
  case nop => exact (Effect.plain [] [] h).asListed "NOP"

/-! ### The statements about every instruction -/

/-- Settles O12, by what the lists say of every instruction. -/
theorem flagsWrittenAsTabulated : Obligations.FlagsWrittenAsTabulated :=
  fun _ _ _ f h hf => (exec_asListed h).flag f hf

/-- Settles O13, likewise. -/
theorem registersWrittenAsListed : Obligations.RegistersWrittenAsListed :=
  fun _ _ _ h => ⟨(exec_asListed h).reg, (exec_asListed h).a_of_target⟩

/-- Settles O16: an instruction moves no counter (`exec_sameSurroundings`), and the rest is as listed. -/
theorem hiddenStateAfterInstruction : Obligations.HiddenStateAfterInstruction := by
  intro i s t h
  have listed := exec_asListed h
  exact ⟨listed.decPending, fun hm => listed.oldI.trans (if_pos hm), fun hm => listed.oldI.trans (if_neg hm),
    (exec_sameSurroundings h).draws⟩

/-! ### Instructions that are the only form of their mnemonic -/

/-- WIT, STP, SEI and BRK have one form each, so the mnemonic gives the instruction. -/
theorem eq_of_mnemonic_eq {i j : Instr} (hj : j = .wit ∨ j = .stp ∨ j = .sei ∨ j = .brk)
    (h : i.mnemonic = j.mnemonic) : i = j := by
  rcases hj with rfl | rfl | rfl | rfl
  all_goals
    revert h
    cases i
    all_goals simp [Instr.mnemonic]

/-! ### The run state -/

/-- An instruction after which a running CPU no longer runs is WIT, and the CPU waits, or STP, and it is stopped. -/
theorem exec_suspends {i : Instr} {s t : State} (hrun : s.runState = .running) (h : exec i s = .next t)
    (ht : t.runState ≠ .running) : (i = .wit ∧ t.runState = .waiting) ∨ (i = .stp ∧ t.runState = .stopped) := by
  have hafter := (exec_asListed h).runState
  unfold runStateAfter at hafter
  split at hafter
  · exact .inl ⟨eq_of_mnemonic_eq (by simp) ‹_›, hafter⟩
  · split at hafter
    · exact .inr ⟨eq_of_mnemonic_eq (by simp) ‹_›, hafter⟩
    · exact absurd (by simpa [hrun] using hafter) ht

/-- After an interrupt entry the CPU runs (R326). -/
@[simp] theorem State.interruptEntry_runState (s : State) (k : Nat) : (s.interruptEntry k).runState = .running := by
  simp [State.interruptEntry]

/-- Settles O14, by the three kinds of a step. -/
theorem runStateChanges : Obligations.RunStateChanges := by
  intro s t h
  rcases step_cases h with ⟨k, haccepted, rfl⟩ | ⟨i, u, -, hrun, hfetch, hexec, rfl⟩ | ⟨-, hrun, rfl⟩
  · have hruns : (s.interruptEntry k).tick.runState = .running := by simp
    exact ⟨fun _ ht => absurd hruns ht, fun _ => .inr ⟨hruns, k, haccepted⟩⟩
  · refine ⟨fun _ ht => ?_, fun hs => absurd hrun hs⟩
    rw [hfetch, Option.some_inj, Option.some_inj]
    exact exec_suspends (t := u) hrun hexec ht
  · exact ⟨fun hs => absurd hs hrun, fun _ => .inl rfl⟩

/-! ### The interrupt disable flag -/

/-- An instruction that takes I from 1 to 0 is CLI, PLP or RTI: of the other writers of I, SEI and BRK set it. -/
theorem exec_clears_i {i : Instr} {s t : State} (h : exec i s = .next t) (hs : s.flag .i = true)
    (ht : t.flag .i = false) : i.mnemonic ∈ ["CLI", "PLP", "RTI"] := by
  have hwriter : i.mnemonic ∈ flagWriters .i := by
    by_contra hnot
    rcases (exec_asListed h).flag .i hnot with ⟨-, -, hf | hf⟩ | hkept
    · cases hf
    · cases hf
    · rw [hkept, hs] at ht
      cases ht
  have hsei : i.mnemonic ≠ "SEI" := by
    intro hm
    cases eq_of_mnemonic_eq (j := .sei) (by simp) hm
    cases h
    simp at ht
  have hbrk : i.mnemonic ≠ "BRK" := by
    intro hm
    cases eq_of_mnemonic_eq (j := .brk) (by simp) hm
    cases h
    simp at ht
  simpa [flagWriters, hsei, hbrk] using hwriter

/-- An interrupt entry sets I (R326). -/
theorem State.interruptEntry_flag_i (s : State) (k : Nat) : (s.interruptEntry k).flag .i = true := by
  simp [State.interruptEntry]

/-- Settles O11, by the three kinds of a step. -/
theorem onlyCliPlpRtiClearI : Obligations.OnlyCliPlpRtiClearI := by
  intro s t h hs ht
  rcases step_cases h with ⟨k, -, rfl⟩ | ⟨i, u, -, -, hfetch, hexec, rfl⟩ | ⟨-, -, rfl⟩
  · rw [State.tick_flag, State.interruptEntry_flag_i] at ht
    cases ht
  · exact ⟨i, hfetch, exec_clears_i hexec hs ht⟩
  · rw [State.tick_flag, hs] at ht
    cases ht

end Sys2Proof.Machine
end

section
/-! One byte written to memory (O17). -/

namespace Sys2Proof.Machine

variable (s : State) (a : Word) (v : Byte)

/-- A write stores its byte where the cell is RAM; ROM and unmapped addresses ignore it, and a device cell's answer is not
remembered (R71, D16, log 7, 8, 9). -/
theorem State.write_stored : Stored a v s (s.write a v) := fun k => by
  simp [State.read_write]

/-- The frame of a write: it changes at most the byte at its own address. -/
theorem State.write_keeps : Keeps [] [] [a] s (s.write a v) := by
  refine ⟨fun r _ => ?regs, fun f _ => State.write_flag s a v f, fun k b hb => ?mem, ?system⟩
  case regs => cases r <;> rfl
  case mem => exact State.read_write_ne v k (List.mem_singleton.not.1 hb)
  case system => simp [KeepsSystem]

/-- Settles O17, from what a write stores and its frame. -/
theorem memoryReadAfterWrite : Obligations.MemoryReadAfterWrite := fun s a v =>
  have ⟨regs, flags, mem, system⟩ := s.write_keeps a v
  ⟨s.write_stored a v, mem, regs, flags, system⟩

end Sys2Proof.Machine
end

section
/-! Encoding and decoding: the round trip both ways (O2, O3), the source's examples (O1), and the bytes that select no
instruction (O4). -/

namespace Sys2Proof

/-! ### What a row builds is encoded back to the row's bytes -/

/-- The Op-Codes of a row: a bit instruction leaves the three bits of its bit number open (R95), any other row has
one. -/
def OpcodeRow.opcode (r : OpcodeRow) (b : BitNo) : Byte :=
  if r.mask = 0x1F#8 then b ++ r.pattern.setWidth 5 else r.pattern

theorem mask_of_mem_opcodeTable : ∀ r ∈ opcodeTable, r.mask = 0xFF#8 ∨ r.mask = 0x1F#8 := by
  simp only [opcodeTable, List.forall_mem_append]
  decide

/-- An Op-Code is its bit number over its five low bits (R95). -/
theorem opcodeBit_append_and_mask (op : Byte) : opcodeBit op ++ (op &&& 0x1F#8).setWidth 5 = op := by
  decide +revert

/-- An Op-Code that meets a row's pattern is the row's Op-Code for its own bit number. -/
theorem OpcodeRow.opcode_opcodeBit {r : OpcodeRow} {op : Byte} (hr : r ∈ opcodeTable)
    (hop : op &&& r.mask = r.pattern) : r.opcode (opcodeBit op) = op := by
  rw [OpcodeRow.opcode, ← hop]
  rcases mask_of_mem_opcodeTable r hr with hmask | hmask
  · rw [hmask, if_neg (by decide)]
    exact BitVec.and_allOnes
  · rw [hmask, if_pos rfl, opcodeBit_append_and_mask]

/-- Row by row: what the table builds is encoded as the bytes it is built from, the row's Op-Code and, up to the row's
length, the two bytes after it. A 16-bit operand gives its two bytes back (R94), a bit number its three bits (R95). -/
theorem encode_build_opcode : ∀ r ∈ opcodeTable, ∀ (b : BitNo) (op1 op2 : Byte),
    encode (r.build (r.opcode b) op1 op2) = [r.opcode b, op1, op2].take r.length := by
  simp only [opcodeTable, List.forall_mem_append, rowsDataTransfer, rowsArithmetic, rowsLogicShift, rowsBitManaging,
    rowsFlagSetting, rowsJumpBranch, rowsSpecial, List.forall_mem_cons, List.not_mem_nil, false_imp_iff,
    forall_true_iff, and_true]
  and_intros
  all_goals simp [OpcodeRow.opcode, encode]

/-- The instruction built from an Op-Code by the row it selects is encoded as the bytes it was built from. -/
theorem encode_build {r : OpcodeRow} {op : Byte} (op1 op2 : Byte) (hr : r ∈ opcodeTable)
    (hop : op &&& r.mask = r.pattern) : encode (r.build op op1 op2) = [op, op1, op2].take r.length := by
  simpa only [OpcodeRow.opcode_opcodeBit hr hop] using encode_build_opcode r hr (opcodeBit op) op1 op2

/-! ### What the decoder answers -/

/-- The row an Op-Code selects is one of the table, and the Op-Code meets its pattern (R92). -/
theorem mem_opcodeTable_of_opcodeRow {op : Byte} {r : OpcodeRow} (h : opcodeRow op = some r) :
    r ∈ opcodeTable ∧ op &&& r.mask = r.pattern :=
  ⟨List.mem_of_find?_eq_some h, by simpa using List.find?_some h⟩

/-- Bytes that decode are the bytes the selected row builds from, as many as its length (R93), and the rest. -/
theorem decode_eq_ok {bytes rest : List Byte} {i : Instr} (h : decode bytes = .ok (i, rest)) :
    ∃ (r : OpcodeRow) (op op1 op2 : Byte),
      opcodeRow op = some r ∧ i = r.build op op1 op2 ∧ bytes = [op, op1, op2].take r.length ++ rest := by
  cases bytes with
  | nil => cases h
  | cons op tail =>
    rw [decode] at h
    split at h
    · cases h
    · rename_i r hrow
      split at h <;> cases h
      case h_1 hlen => exact ⟨r, op, 0, 0, hrow, rfl, by rw [hlen]; rfl⟩
      case h_2 op1 hlen => exact ⟨r, op, op1, 0, hrow, rfl, by rw [hlen]; rfl⟩
      case h_3 op1 op2 hlen => exact ⟨r, op, op1, op2, hrow, rfl, by rw [hlen]; rfl⟩

/-- The decoder names an Op-Code as undefined exactly when the Op-Code selects no row (R99). -/
theorem decode_eq_undefinedOpcode_iff {op : Byte} {rest : List Byte} :
    decode (op :: rest) = .error (.undefinedOpcode op) ↔ opcodeRow op = none := by
  rw [decode]
  split
  case h_1 hrow => simp [hrow]
  case h_2 r hrow =>
    simp only [hrow, reduceCtorEq, iff_false]
    split <;> nofun

/-- The Op-Codes that select no row are the 25 of R99: the table's search, run on each of the 256 bytes. -/
theorem opcodeRow_eq_none_iff (op : Byte) : opcodeRow op = none ↔ op ∈ Machine.undefinedOpcodes := by
  decide +revert +kernel

/-! ### The statements about the encoding -/

/-- Settles O2, by cases on the instruction in `decode_encode_append`. -/
theorem decodeEncodeAgree : Obligations.DecodeEncodeAgree :=
  decode_encode_append

/-- Settles O3: the bytes decoded are the ones the selected row builds from, and these the encoder gives back. -/
theorem encodeDecodeAgree : Obligations.EncodeDecodeAgree := by
  intro bytes rest i h
  obtain ⟨r, op, op1, op2, hrow, rfl, rfl⟩ := decode_eq_ok h
  obtain ⟨hmem, hop⟩ := mem_opcodeTable_of_opcodeRow hrow
  rw [encode_build op1 op2 hmem hop]

/-- Settles O1. The words stand written out, so the decoder's answer on each is computed. -/
theorem sourceExamplesDecode : Obligations.SourceExamplesDecode :=
  ⟨rfl, rfl, rfl, rfl, rfl, rfl, rfl, rfl, rfl, rfl, rfl, rfl⟩

/-! ### The step of a running CPU on an undefined Op-Code -/

namespace Machine

/-- Where the byte at the PC is undefined, nothing is fetched (R99). -/
theorem State.fetchInstr_eq_none {s : State} (h : s.read .fetch s.pc ∈ undefinedOpcodes) : s.fetchInstr = none := by
  have hdecode : decode s.fetchBytes = .error (.undefinedOpcode (s.read .fetch s.pc)) :=
    decode_eq_undefinedOpcode_iff.2 ((opcodeRow_eq_none_iff _).2 h)
  simp [State.fetchInstr, hdecode]

/-- A running CPU that enters no interrupt and fetches no instruction refuses (D11, log 24). -/
theorem step_of_fetchInstr_eq_none {s : State} (hr : s.runState = .running) (ha : s.acceptedRequest = none)
    (hf : s.fetchInstr = none) : step s = .refused (.undefinedOpcode (s.read .fetch s.pc)) := by
  simp only [step, cpuStep, ha, hr, runInstr, hf]

/-- Settles O4: an undefined byte is one that selects no row, for the decoder and so for the fetch. -/
theorem undefinedOpcodesRefused : Obligations.UndefinedOpcodesRefused :=
  ⟨fun op _ => decode_eq_undefinedOpcode_iff.trans (opcodeRow_eq_none_iff op),
    fun _ hr ha hop => step_of_fetchInstr_eq_none hr ha (State.fetchInstr_eq_none hop)⟩

end Machine

end Sys2Proof
end

section
/-! Which instructions complete (O15). -/

namespace Sys2Proof.Machine

/-! ### The instructions that a member may lack or software may not use -/

section
variable (c : Config)

@[simp] theorem wellFormed_mulZpx (zz : Byte) : wellFormed c (.mulZpx zz) = c.hasMulDiv := by
  simp [wellFormed, wfMulDiv, wfStpWit, wfJmpInd]

@[simp] theorem wellFormed_divZpx (zz : Byte) : wellFormed c (.divZpx zz) = c.hasMulDiv := by
  simp [wellFormed, wfMulDiv, wfStpWit, wfJmpInd]

@[simp] theorem wellFormed_wit : wellFormed c .wit = c.hasStpWit := by
  simp [wellFormed, wfMulDiv, wfStpWit, wfJmpInd]

@[simp] theorem wellFormed_stp : wellFormed c .stp = c.hasStpWit := by
  simp [wellFormed, wfMulDiv, wfStpWit, wfJmpInd]

@[simp] theorem wellFormed_jmpInd (addr : Word) : wellFormed c (.jmpInd addr) = (lowByte addr != 0xFF#8) := by
  simp [wellFormed, wfMulDiv, wfStpWit, wfJmpInd]

end

section
variable {s : State}

/-! ### The operations that choose or refuse -/

/-- MUL completes where the member has it (R191). -/
theorem opMul_completes_iff {zz : Byte} : (∃ t, opMul zz s = .next t) ↔ s.cfg.hasMulDiv = true := by
  unfold opMul
  split <;> simp_all

/-- DIV completes where the member has it and its dividend does not lie across the end of page 0 (R192, D24). -/
theorem opDiv_completes_iff {zz : Byte} :
    (∃ t, opDiv zz s = .next t) ↔ s.cfg.hasMulDiv = true ∧ zz + s.x ≠ 0xFF#8 := by
  simp only [opDiv]
  split
  · split <;> simp_all
  · simp_all

/-- WIT and STP complete where the member has them (R301, R302). -/
theorem opSuspend_completes_iff {r : RunState} {op : Byte} :
    (∃ t, opSuspend r op s = .next t) ↔ s.cfg.hasStpWit = true := by
  unfold opSuspend
  split <;> simp_all

/-- JMP (addr) completes where its pointer is not at a page end (R134, D23). -/
theorem execJmpInd_completes_iff {addr : Word} :
    (∃ t, execJmpInd addr s = .next t) ↔ lowByte addr ≠ 0xFF#8 := by
  unfold execJmpInd
  split <;> simp_all

/-- CLC, SEC and CLD complete whether or not a decimal ADC or SBC stands right before them (R368). -/
theorem opSetFlagAfterDecimal_completes (f : Flag) (v : Bool) : ∃ t, opSetFlagAfterDecimal f v s = .next t := by
  unfold opSetFlagAfterDecimal
  split <;> exact ⟨_, rfl⟩

/-- A branch completes, taken or not. -/
theorem opBranch_completes (taken : Bool) (len : Nat) (disp : Byte) : ∃ t, opBranch taken len disp s = .next t := by
  cases taken <;> exact ⟨_, rfl⟩

/-! ### Every instruction -/

/-- For an instruction other than DIV that is well-formed and completes, both sides of O15 hold. -/
theorem completes_iff_of_completes {i : Instr} (h : ∃ t, exec i s = .next t)
    (hwf : wellFormed s.cfg i = true := by rfl) (hdiv : ∀ zz, i ≠ .divZpx zz := by nofun) :
    (∃ t, exec i s = .next t) ↔ wellFormed s.cfg i = true ∧ ∀ zz, i = .divZpx zz → zz + s.x ≠ 0xFF#8 :=
  iff_of_true h ⟨hwf, fun zz hi => absurd hi (hdiv zz)⟩

end

/-- Settles O15. The five instructions that can be refused complete under their own conditions; CLC, SEC, CLD and the
branches choose between two next states; every other one answers a single next state. -/
theorem completesExactlyWhenWellFormed : Obligations.CompletesExactlyWhenWellFormed := by
  intro i s
  cases i
  case mulZpx => exact opMul_completes_iff.trans (by simp)
  case divZpx => exact opDiv_completes_iff.trans (by simp)
  case wit | stp => exact opSuspend_completes_iff.trans (by simp)
  case jmpInd => exact execJmpInd_completes_iff.trans (by simp)
  case clc | sec | cld => exact completes_iff_of_completes (opSetFlagAfterDecimal_completes _ _)
  case bbcAcc | bbcZp | bbsAcc | bbsZp | bcc | bcs | bne | beq | bpl | bmi | bvc | bvs =>
    exact completes_iff_of_completes (opBranch_completes _ _ _)
  all_goals exact completes_iff_of_completes ⟨_, rfl⟩

end Sys2Proof.Machine
end

section
/-! The effective addresses of the data addressing modes as numbers (O18). -/

namespace Sys2Proof.Machine

/-! ### Addresses in page 0 -/

/-- A zero-page address is its byte (R94 (b)). -/
@[simp] theorem toNat_zeroPage (z : Byte) : (zeroPage z).toNat = z.toNat := by
  simp [zeroPage, toNat_mkWord]

/-- The zero-page address of a number modulo 256: it stays in page 0. -/
theorem zeroPage_ofNat (n : Nat) : zeroPage (BitVec.ofNat 8 n) = BitVec.ofNat 16 (n % 256) := by
  apply BitVec.eq_of_toNat_eq
  rw [toNat_zeroPage, BitVec.toNat_ofNat, BitVec.toNat_ofNat]
  omega

/-! ### Indexed addresses -/

/-- Zero Page indexed: the sum wraps inside page 0 (R124, R125). -/
theorem toNat_zeroPage_add (z i : Byte) : (zeroPage (z + i)).toNat = (z.toNat + i.toNat) % 256 := by
  rw [toNat_zeroPage, BitVec.toNat_add]

/-- Absolute indexed and Indirect Y: the sum wraps modulo 65536 (R127, R128, R132, D5). -/
theorem toNat_add_zext16 (w : Word) (i : Byte) : (w + zext16 i).toNat = (w.toNat + i.toNat) % 65536 := by
  rw [BitVec.toNat_add, zext16, BitVec.toNat_setWidth_of_le (by decide)]

/-! ### The pointer in page 0 -/

/-- The pointer at `n` in page 0: its low byte first, and its high byte wraps inside page 0 (R68, R131, D23). -/
theorem State.isWord_zpPointer (s : State) (n : Nat) :
    IsWord (s.zpPointer (BitVec.ofNat 8 n)) (s.read .pointer (BitVec.ofNat 16 ((n + 1) % 256)))
      (s.read .pointer (BitVec.ofNat 16 (n % 256))) := by
  rw [← zeroPage_ofNat, ← zeroPage_ofNat, BitVec.ofNat_add]
  exact isWord_mkWord _ _

/-- The pointer of Indirect X, at the zero-page address indexed by `i` (R131). -/
theorem State.isWord_zpPointer_add (s : State) (z i : Byte) :
    IsWord (s.zpPointer (z + i)) (s.read .pointer (BitVec.ofNat 16 ((z.toNat + i.toNat + 1) % 256)))
      (s.read .pointer (BitVec.ofNat 16 ((z.toNat + i.toNat) % 256))) := by
  have h := s.isWord_zpPointer (z.toNat + i.toNat)
  rwa [BitVec.ofNat_add, BitVec.ofNat_toNat, BitVec.ofNat_toNat, BitVec.setWidth_eq, BitVec.setWidth_eq] at h

/-- The pointer of Indirect Y, at the zero-page address itself (R132). -/
theorem State.isWord_zpPointer_byte (s : State) (z : Byte) :
    IsWord (s.zpPointer z) (s.read .pointer (BitVec.ofNat 16 ((z.toNat + 1) % 256)))
      (s.read .pointer (BitVec.ofNat 16 z.toNat)) := by
  have h := s.isWord_zpPointer z.toNat
  rwa [BitVec.ofNat_toNat, BitVec.setWidth_eq, Nat.mod_eq_of_lt z.isLt] at h

/-! ### Every mode -/

/-- Settles O18. Immediate and Accumulator have a value and no address; each other mode's address is the one `Operand.ea`
names, as a number by the lemma for its kind of sum; the two indirect modes take their pointer from page 0. -/
theorem effectiveAddresses : Obligations.EffectiveAddresses := by
  intro s v z w
  refine ⟨Operand.value_imm s v, Operand.value_acc s, rfl, rfl, ?zp, ?zpx, ?zpy, rfl, ?absx, ?absy, ?indx, ?indy,
    fun _ _ => Operand.value_mem⟩
  case zp => exact congrArg some (toNat_zeroPage z)
  case zpx => exact congrArg some (toNat_zeroPage_add z s.x)
  case zpy => exact congrArg some (toNat_zeroPage_add z s.y)
  case absx => exact congrArg some (toNat_add_zext16 w s.x)
  case absy => exact congrArg some (toNat_add_zext16 w s.y)
  case indx => exact ⟨s.zpPointer (z + s.x), rfl, s.isWord_zpPointer_add z s.x⟩
  case indy =>
    exact ⟨s.zpPointer z, s.zpPointer z + zext16 s.y, rfl, toNat_add_zext16 _ s.y, s.isWord_zpPointer_byte z⟩

end Sys2Proof.Machine
end

section
/-! Data transfer: loads (O20, O21), stores (O22, O23), transfers (O24) and the stack instructions (O25, O26). First come
the rules other families use too: frames one after another, what the last updates of an instruction leave, and the forms
of an instruction as one operation on an operand. -/

namespace Sys2Proof.Machine

/-! ### Frames one after another -/

section
variable {rs rs' : List Reg} {fs fs' : List Flag} {as as' : List Word} {s t u : State}

/-- A frame that allows more. -/
theorem Keeps.mono (h : Keeps rs fs as s t) (hr : rs ⊆ rs') (hf : fs ⊆ fs') (ha : as ⊆ as') : Keeps rs' fs' as' s t := by
  obtain ⟨regs, flags, mem, system⟩ := h
  exact ⟨fun r hn => regs r fun hm => hn (hr hm), fun f hn => flags f fun hm => hn (hf hm),
    fun k a hn => mem k a fun hm => hn (ha hm), system⟩

/-- Two updates within one frame are within it together. -/
theorem Keeps.trans (h : Keeps rs fs as s t) (h' : Keeps rs fs as t u) : Keeps rs fs as s u := by
  obtain ⟨regs, flags, mem, pending, enabled, run, cfg⟩ := h
  obtain ⟨regs', flags', mem', pending', enabled', run', cfg'⟩ := h'
  exact ⟨fun r hn => (regs' r hn).trans (regs r hn), fun f hn => (flags' f hn).trans (flags f hn),
    fun k a hn => (mem' k a hn).trans (mem k a hn), pending'.trans pending, enabled'.trans enabled, run'.trans run,
    cfg'.trans cfg⟩

/-! ### An update of flags at the end of an instruction -/

variable {f : State → State}

theorem FlagsOnly.reg (hf : FlagsOnly fs f) (u : State) (r : Reg) : (f u).reg r = u.reg r := by
  cases r
  exacts [hf.a u, hf.x u, hf.y u, hf.sp u]

theorem FlagsOnly.keeps (hf : FlagsOnly fs f) (u : State) : Keeps [] fs [] u (f u) :=
  ⟨fun r _ => hf.reg u r, hf.flags u, fun k a _ => hf.mem u k a, hf.system u⟩

/-- The frame of an update that writes no flag, followed by an update of flags. -/
theorem FlagsOnly.keeps_after (hf : FlagsOnly fs f) (h : Keeps rs [] as s t) : Keeps rs fs as s (f t) :=
  .trans (h.mono (List.Subset.refl _) (List.nil_subset _) (List.Subset.refl _))
    ((hf.keeps t).mono (List.nil_subset _) (List.Subset.refl _) (List.nil_subset _))

theorem FlagsOnly.stored_after {a : Word} {v : Byte} (hf : FlagsOnly fs f) (h : Stored a v s t) : Stored a v s (f t) :=
  fun k => (hf.mem t k a).trans (h k)

theorem FlagsOnly.loadsReg_after {r : Reg} {v : Byte} (hf : FlagsOnly fs f) (h : LoadsReg r v [] s t) :
    LoadsReg r v fs s (f t) :=
  ⟨(hf.reg t r).trans h.1, hf.keeps_after h.2⟩

theorem FlagsOnly.pushesByte_after {v : Byte} (hf : FlagsOnly fs f) (h : PushesByte v rs [] s t) :
    PushesByte v rs fs s (f t) := by
  obtain ⟨stored, sp, keeps⟩ := h
  exact ⟨hf.stored_after stored, (hf.sp t).trans sp, hf.keeps_after keeps⟩

end

/-- The end of an instruction writes no flag. -/
theorem flagsOnly_advance (len : Nat) : FlagsOnly [] fun u => u.advance len := by
  constructor <;> simp [KeepsSystem, KeepsFlags]

/-- `setNZ` and the end of the instruction write N and Z. -/
theorem flagsOnly_setNZ_advance (v : Byte) (len : Nat) : FlagsOnly [.n, .z] fun u => (u.setNZ v).advance len := by
  constructor <;> simp +contextual [KeepsSystem, KeepsFlags]

theorem State.showsNZ_setNZ_advance (s : State) (v : Byte) (len : Nat) : ShowsNZ v ((s.setNZ v).advance len) :=
  showsNZ_of_flags (by simp) (by simp)

theorem State.endsAt_advance (s : State) (len : Nat) : EndsAt (s.pc + BitVec.ofNat 16 len) (s.advance len) := ⟨rfl, rfl⟩

/-! ### A register loaded -/

/-- Writes one data register: `setA`, `setX`, `setY` or `setSP`. -/
def State.setReg (s : State) (r : Reg) (v : Byte) : State :=
  match r with
  | .a => s.setA v
  | .x => s.setX v
  | .y => s.setY v
  | .s => s.setSP v

theorem State.setReg_loadsReg (s : State) (r : Reg) (v : Byte) : LoadsReg r v [] s (s.setReg r v) := by
  cases r
  all_goals
    refine ⟨rfl, fun q hq => ?_, fun _ _ => rfl, fun _ _ _ => rfl, rfl, rfl, rfl, rfl⟩
    cases q <;> simp_all [State.reg, State.setReg]

theorem State.setReg_pc (s : State) (r : Reg) (v : Byte) : (s.setReg r v).pc = s.pc := by cases r <;> rfl

/-- An instruction of `len` bytes that loads a register and shows the byte in N and Z: LDX, LDY and the transfers, and
PLA behind its pull. -/
def State.loadReg (s : State) (r : Reg) (v : Byte) (len : Nat) : State := ((s.setReg r v).setNZ v).advance len

theorem State.loadReg_spec (s : State) (r : Reg) (v : Byte) (len : Nat) :
    LoadsReg r v [.n, .z] s (s.loadReg r v len) ∧ ShowsNZ v (s.loadReg r v len) ∧
      EndsAt (s.pc + BitVec.ofNat 16 len) (s.loadReg r v len) := by
  refine ⟨(flagsOnly_setNZ_advance v len).loadsReg_after (s.setReg_loadsReg r v), State.showsNZ_setNZ_advance _ v len, ?_⟩
  rw [← s.setReg_pc r v]
  exact State.endsAt_advance _ len

/-! ### The forms of an instruction -/

/-- The instruction `p.1` is the operation `op` on the operand `p.2`, and as long as that addressing mode says. -/
structure IsForm (op : Operand → State → Result) (p : Instr × Operand) : Prop where
  exec_eq : ∀ s, exec p.1 s = op p.2 s
  length : (encode p.1).length = p.2.len

theorem IsForm.nextPc_eq {op : Operand → State → Result} {p : Instr × Operand} (h : IsForm op p) (s : State) :
    nextPc p.1 s = s.pc + BitVec.ofNat 16 p.2.len := by
  rw [nextPc, h.length]

/-- A form of STA, STX or STY, `r` the register stored: its operand lies in memory. -/
structure IsStoreForm (r : State → Byte) (p : Instr × Operand) : Prop extends IsForm (fun o s => opStore (r s) o s) p where
  exists_ea : ∀ s, ∃ a, p.2.ea s = some a

section
variable {m z : Byte} {w : Word} {p : Instr × Operand}

theorem isForm_lda (hp : p ∈ ldaForms m z w) : IsForm opLda p := by
  fin_cases hp
  all_goals exact ⟨fun _ => rfl, rfl⟩

theorem isForm_ldx (hp : p ∈ ldxForms m z w) : IsForm opLdx p := by
  fin_cases hp
  all_goals exact ⟨fun _ => rfl, rfl⟩

theorem isForm_ldy (hp : p ∈ ldyForms m z w) : IsForm opLdy p := by
  fin_cases hp
  all_goals exact ⟨fun _ => rfl, rfl⟩

theorem isStoreForm_sta (hp : p ∈ staForms m z w) : IsStoreForm State.a p := by
  fin_cases hp
  all_goals exact ⟨⟨fun _ => rfl, rfl⟩, fun _ => ⟨_, rfl⟩⟩

theorem isStoreForm_stx (hp : p ∈ stxForms m z w) : IsStoreForm State.x p := by
  fin_cases hp
  all_goals exact ⟨⟨fun _ => rfl, rfl⟩, fun _ => ⟨_, rfl⟩⟩

theorem isStoreForm_sty (hp : p ∈ styForms m z w) : IsStoreForm State.y p := by
  fin_cases hp
  all_goals exact ⟨⟨fun _ => rfl, rfl⟩, fun _ => ⟨_, rfl⟩⟩

end

/-! ### Loads -/

/-- LDA on any operand: the byte goes where T says, N and Z show it (R151, R180). -/
theorem opLda_spec (o : Operand) (s : State) :
    ∃ t, opLda o s = .next t ∧ TResult (o.value s) [.n, .z] s t ∧ ShowsNZ (o.value s) t ∧
      EndsAt (s.pc + BitVec.ofNat 16 o.len) t := by
  refine ⟨_, rfl, (flagsOnly_setNZ_advance _ o.len).tResult s _, State.showsNZ_setNZ_advance _ _ _, ?_⟩
  rw [← s.writeResult_pc (o.value s)]
  exact State.endsAt_advance _ o.len

/-- Settles O20: each form is LDA's operation on its operand. -/
theorem ldaLoads : Obligations.LdaLoads := by
  intro s m z w p hp
  have hform := isForm_lda hp
  rw [hform.exec_eq, hform.nextPc_eq]
  exact opLda_spec p.2 s

/-- An operation that loads `r` with its operand, in any of its forms (R153, R154). -/
theorem IsForm.loads {op : Operand → State → Result} {p : Instr × Operand} {r : Reg} (h : IsForm op p)
    (hop : ∀ o s, op o s = .next (s.loadReg r (o.value s) o.len)) (s : State) :
    ∃ t, exec p.1 s = .next t ∧ LoadsReg r (p.2.value s) [.n, .z] s t ∧ ShowsNZ (p.2.value s) t ∧
      EndsAt (nextPc p.1 s) t := by
  rw [h.exec_eq, h.nextPc_eq, hop]
  exact ⟨_, rfl, s.loadReg_spec r _ _⟩

/-- Settles O21: LDX and LDY load their registers, each form with its operand's value. -/
theorem ldxLdyLoad : Obligations.LdxLdyLoad := fun s _ _ _ =>
  ⟨fun _ hp => (isForm_ldx hp).loads (fun _ _ => rfl) s, fun _ hp => (isForm_ldy hp).loads (fun _ _ => rfl) s⟩

/-! ### Stores -/

/-- A byte written to memory and the end of the instruction (R71, R150). -/
theorem State.write_advance_spec (s : State) (a : Word) (v : Byte) (len : Nat) :
    Stored a v s ((s.write a v).advance len) ∧ Keeps [] [] [a] s ((s.write a v).advance len) ∧
      EndsAt (s.pc + BitVec.ofNat 16 len) ((s.write a v).advance len) :=
  have hend := flagsOnly_advance len
  ⟨hend.stored_after (s.write_stored a v), hend.keeps_after (s.write_keeps a v), State.endsAt_advance _ len⟩

/-- A store in any of its forms (R155 to R157). -/
theorem IsStoreForm.stores {r : State → Byte} {p : Instr × Operand} (h : IsStoreForm r p) (s : State) :
    ∃ a t, p.2.ea s = some a ∧ exec p.1 s = .next t ∧ Stored a (r s) s t ∧ Keeps [] [] [a] s t ∧
      EndsAt (nextPc p.1 s) t := by
  obtain ⟨a, ha⟩ := h.exists_ea s
  rw [h.exec_eq, h.nextPc_eq, opStore, Operand.put_mem ha]
  exact ⟨a, _, ha, rfl, s.write_advance_spec a (r s) p.2.len⟩

/-- Settles O22, from the rule for a store in any form. -/
theorem storesStore : Obligations.StoresStore := fun s _ _ _ =>
  ⟨fun _ hp => (isStoreForm_sta hp).stores s, fun _ hp => (isStoreForm_stx hp).stores s,
    fun _ hp => (isStoreForm_sty hp).stores s⟩

/-- Settles O23: LDM is a write of its immediate byte. -/
theorem ldmStores : Obligations.LdmStores := fun s imm zz =>
  ⟨rfl, _, rfl, s.write_advance_spec (zeroPage zz) imm 3⟩

/-! ### Transfers -/

/-- Settles O24: each transfer loads its register with the other's byte; TXS writes no flag. -/
theorem transfersTransfer : Obligations.TransfersTransfer := by
  refine fun s => ⟨⟨rfl, ?tax⟩, ⟨rfl, ?txa⟩, ⟨rfl, ?tay⟩, ⟨rfl, ?tya⟩, ⟨rfl, ?tsx⟩, ⟨rfl, ?txs⟩⟩
  case tax => exact ⟨s.loadReg .x s.a 1, rfl, s.loadReg_spec .x s.a 1⟩
  case txa => exact ⟨s.loadReg .a s.x 1, rfl, s.loadReg_spec .a s.x 1⟩
  case tay => exact ⟨s.loadReg .y s.a 1, rfl, s.loadReg_spec .y s.a 1⟩
  case tya => exact ⟨s.loadReg .a s.y 1, rfl, s.loadReg_spec .a s.y 1⟩
  case tsx => exact ⟨s.loadReg .x s.sp 1, rfl, s.loadReg_spec .x s.sp 1⟩
  case txs =>
    exact ⟨(s.setReg .s s.x).advance 1, rfl, (flagsOnly_advance 1).loadsReg_after (s.setReg_loadsReg .s s.x),
      State.endsAt_advance _ 1⟩

/-! ### The stack -/

/-- A push and the end of its one-byte instruction (R27). -/
theorem State.push8_advance_spec (s : State) (v : Byte) :
    PushesByte v [] [] s ((s.push8 v).advance 1) ∧ EndsAt (s.pc + 1) ((s.push8 v).advance 1) :=
  ⟨(flagsOnly_advance 1).pushesByte_after (s.push8_pushesByte v), State.endsAt_advance _ 1⟩

/-- The first half of a pull writes S alone (R28). -/
theorem State.popped_keeps (s : State) : Keeps [.s] [] [] s s.popped :=
  have ⟨_, keeps⟩ := s.setReg_loadsReg .s (s.sp + 1)
  keeps

/-- Settles O25. PLA is a pull, and then a load of A with the byte pulled. -/
theorem phaPushesPlaPulls : Obligations.PhaPushesPlaPulls := by
  refine fun s => ⟨⟨rfl, _, rfl, s.push8_advance_spec s.a⟩, rfl, s.popped.loadReg .a s.pulled 1, rfl, rfl, rfl, ?_⟩
  obtain ⟨⟨-, keeps⟩, shows, ends⟩ := s.popped.loadReg_spec .a s.pulled 1
  exact ⟨shows, (s.popped_keeps.mono (by simp) (by simp) (by simp)).trans (keeps.mono (by simp) (by simp) (by simp)), ends⟩

/-- Settles O26. PLP writes PS whole, so each flag is its bit of the byte pulled, and beside PS it changes what the pull
does: S. -/
theorem phpPushesPlpPulls : Obligations.PhpPushesPlpPulls := by
  refine fun s => ⟨⟨rfl, _, rfl, s.push8_advance_spec s.ps⟩, rfl, _, rfl, rfl, fun _ => rfl, ?_⟩
  obtain ⟨regs, -, mem, system⟩ := s.popped_keeps
  exact ⟨regs, mem, system, ⟨rfl, rfl⟩, rfl⟩

end Sys2Proof.Machine
end

section
/-! Arithmetic: the pure computations (O27), ADC and SBC (O28 to O31), INC, DEC and the index registers (O32, O33), MUL
and DIV (O34, O35), comparisons (O36). -/

namespace Sys2Proof.Machine

/-! ### Binary addition and subtraction -/

theorem signedOverflow_iff (r : Int) : signedOverflow r = true ↔ r > 127 ∨ r < -128 := by
  simp [signedOverflow]

/-- The borrow of a subtraction is `1 - c` (R181). -/
theorem toNat_not_eq_one_sub (c : Bool) : (!c).toNat = 1 - c.toNat := by cases c <;> rfl

/-- Subtraction with borrow `1 - c` is addition of the complement with carry `c` (R181). -/
theorem subBin_eq_addBin_not (p m : Byte) (c : Bool) : subBin p m c = addBin p (~~~m) c := by
  have hm := m.isLt
  have hnat : (~~~m).toNat = 255 - m.toNat := BitVec.toNat_not
  have hint : (~~~m).toInt = -1 - m.toInt := by
    rw [toInt_eq_signed8, toInt_eq_signed8]
    split <;> split <;> omega
  have hborrow := toNat_not_eq_one_sub c
  have hc := c.toNat_le
  have hresult : (subBin p m c).result = (addBin p (~~~m) c).result := by
    apply BitVec.eq_of_toNat_eq
    simp only [subBin, addBin, BitVec.toNat_ofInt, BitVec.toNat_ofNat]
    omega
  have hcarry : (subBin p m c).c = (addBin p (~~~m) c).c := by
    simp only [subBin, addBin, decide_eq_decide]
    omega
  have hoverflow : (subBin p m c).v = (addBin p (~~~m) c).v := by
    simp only [subBin, addBin]
    congr 1
    omega
  rw [AluResult.mk.injEq]
  exact ⟨hresult, hcarry, hoverflow, congrArg (bitOf · 7) hresult, congrArg (· == 0#8) hresult⟩

section
variable (p m : Byte) (c : Bool)

theorem addBin_result_toNat : (addBin p m c).result.toNat = (p.toNat + m.toNat + c.toNat) % 256 := by
  simp [addBin]

theorem addBin_c_iff : (addBin p m c).c = true ↔ p.toNat + m.toNat + c.toNat > 255 := by
  simp [addBin]

theorem addBin_v_iff :
    (addBin p m c).v = true ↔ p.toInt + m.toInt + c.toNat > 127 ∨ p.toInt + m.toInt + c.toNat < -128 :=
  signedOverflow_iff _

/-- The bit formula for V: the operands have one sign and the result has the other (R181). -/
theorem addBin_v_eq_bitOf :
    (addBin p m c).v = bitOf ((~~~(p ^^^ m)) &&& (p ^^^ (addBin p m c).result)) 7 := by
  have hbits : ∀ r, bitOf ((~~~(p ^^^ m)) &&& (p ^^^ r)) 7 =
      (!(bitOf p 7 ^^ bitOf m 7) && (bitOf p 7 ^^ bitOf r 7)) := by
    simp [bitOf]
  have hp := p.isLt
  have hm := m.isLt
  have hc := c.toNat_le
  rw [hbits, Bool.eq_iff_iff, addBin_v_iff, bitOf_seven, bitOf_seven, bitOf_seven, addBin_result_toNat,
    toInt_eq_signed8, toInt_eq_signed8]
  -- by the signs of the two operands
  by_cases hps : p.toNat < 128 <;> by_cases hms : m.toNat < 128 <;> simp [hps, hms] <;> omega

theorem subBin_result_toNat :
    (subBin p m c).result.toNat = (p.toNat + 256 - m.toNat - (1 - c.toNat)) % 256 := by
  have hm := m.isLt
  have hc := c.toNat_le
  rw [subBin_eq_addBin_not, addBin_result_toNat, BitVec.toNat_not]
  omega

theorem subBin_c_iff : (subBin p m c).c = true ↔ m.toNat + (1 - c.toNat) ≤ p.toNat := by
  have hm := m.isLt
  have hc := c.toNat_le
  rw [subBin_eq_addBin_not, addBin_c_iff, BitVec.toNat_not]
  omega

/-- V of a subtraction, as the two statements write the borrow. -/
theorem subBin_v_iff :
    (subBin p m c).v = true ↔
      p.toInt - m.toInt - (1 - c.toNat : Nat) > 127 ∨ p.toInt - m.toInt - (1 - c.toNat : Nat) < -128 := by
  rw [← toNat_not_eq_one_sub c]
  exact signedOverflow_iff _

/-- The bit formula for V: the operands differ in sign and the result's sign is not the minuend's (R181). -/
theorem subBin_v_eq_bitOf : (subBin p m c).v = bitOf ((p ^^^ m) &&& (p ^^^ (subBin p m c).result)) 7 := by
  have hxor : ~~~(p ^^^ ~~~m) = p ^^^ m := by rw [← BitVec.not_xor_right, BitVec.not_not]
  rw [subBin_eq_addBin_not, addBin_v_eq_bitOf, hxor]

end

/-- Settles O27, from the rules for addition and for subtraction as addition of the complement. -/
theorem binaryAddSubFlags : Obligations.BinaryAddSubFlags := by
  intro p m c
  refine ⟨⟨addBin_result_toNat p m c, addBin_c_iff p m c, addBin_v_iff p m c, addBin_v_eq_bitOf p m c, rfl, beq_iff_eq⟩,
    subBin_result_toNat p m c, subBin_c_iff p m c, ?_, subBin_v_eq_bitOf p m c, rfl, beq_iff_eq⟩
  rw [← Int.ofNat_one, ← Int.natCast_sub c.toNat_le]
  exact subBin_v_iff p m c

/-! ### Decimal addition and subtraction -/

/-- A decimal numeral's value has two digits (R182). -/
theorem decValue_le_of_isDecimal {v : Byte} (h : isDecimal v = true) : decValue v ≤ 99 := by
  simp only [isDecimal, Bool.and_eq_true, decide_eq_true_eq] at h
  rw [decValue]
  omega

section
variable {n : Nat}

theorem toNat_bcd (h : n ≤ 99) : (bcd n).toNat = 16 * (n / 10) + n % 10 := by
  rw [bcd, BitVec.toNat_ofNat]
  omega

theorem isDecimal_bcd (h : n ≤ 99) : isDecimal (bcd n) = true := by
  simp only [isDecimal, toNat_bcd h, Bool.and_eq_true, decide_eq_true_eq]
  omega

theorem decValue_bcd (h : n ≤ 99) : decValue (bcd n) = n := by
  rw [decValue, toNat_bcd h]
  omega

end

/-- The byte `r` and the carry `c` are the decimal numeral of `n` modulo 100 and the answer to `carry` (R182). -/
structure IsDecimalResult (r : AluResult) (n : Nat) (carry : Prop) : Prop where
  isDecimal : isDecimal r.result = true
  value : decValue r.result = n % 100
  carry : r.c = true ↔ carry

section
variable {p m : Byte} (n : Nat) (c : Bool)

/-- On valid operands the decimal-mode result and carry are the ones computed (R182). -/
theorem decimalResult_isDecimalResult {result : Byte} {carry : Bool} {k : Nat} {q : Prop}
    (hresult : result = bcd (k % 100)) (hcarry : carry = true ↔ q) :
    IsDecimalResult (decimalResult n true result carry) k q := by
  have hk : k % 100 ≤ 99 := by omega
  rw [hresult]
  exact ⟨isDecimal_bcd hk, decValue_bcd hk, hcarry⟩

theorem addDec_isDecimalResult (hp : isDecimal p = true) (hm : isDecimal m = true) :
    IsDecimalResult (addDec n p m c) (decValue p + decValue m + c.toNat)
      (decValue p + decValue m + c.toNat > 99) := by
  rw [addDec, hp, hm]
  exact decimalResult_isDecimalResult n rfl decide_eq_true_iff

/-- The subtrahend with its borrow is at most 100, so the difference plus 100 is never truncated. -/
theorem subDec_isDecimalResult (hp : isDecimal p = true) (hm : isDecimal m = true) :
    IsDecimalResult (subDec n p m c) (decValue p + 100 - (decValue m + (1 - c.toNat)))
      (decValue m + (1 - c.toNat) ≤ decValue p) := by
  have hmle := decValue_le_of_isDecimal hm
  rw [subDec, hp, hm, toNat_not_eq_one_sub]
  refine decimalResult_isDecimalResult n (congrArg bcd ?_) (decide_eq_true_iff.trans ?_)
  all_goals omega

end

/-! ### ADC and SBC -/

/-- The flags an addition or subtraction leaves are those of its result (R183, R184). -/
structure ShowsArith (r : AluResult) (t : State) : Prop where
  c : t.flag .c = r.c
  v : t.flag .v = r.v
  n : t.flag .n = r.n
  z : t.flag .z = r.z

/-- What ADC and SBC compute in state `s`: the first operand by T, decimal or binary by D (R180 to R182). -/
def State.addSub (bin : Byte → Byte → Bool → AluResult) (dec : Nat → Byte → Byte → Bool → AluResult) (m : Byte)
    (s : State) : AluResult :=
  if s.flag .d then dec s.draws s.firstOperand m (s.flag .c) else bin s.firstOperand m (s.flag .c)

theorem opAddSub_eq (bin : Byte → Byte → Bool → AluResult) (dec : Nat → Byte → Byte → Bool → AluResult) (o : Operand)
    (s : State) :
    opAddSub bin dec o s =
      let r := s.addSub bin dec (o.value s)
      .next ((((s.writeResult r.result).setArith r).advance o.len).setDecPending (s.flag .d)) := rfl

theorem flagsOnly_setArith_advance_setDecPending (r : AluResult) (len : Nat) (d : Bool) :
    FlagsOnly [.n, .v, .z, .c] fun u => ((u.setArith r).advance len).setDecPending d := by
  constructor <;> simp +contextual [KeepsSystem, KeepsFlags]

theorem isForm_adc {m z : Byte} {w : Word} {p : Instr × Operand} (hp : p ∈ adcForms m z w) :
    IsForm (opAddSub addBin addDec) p := by
  fin_cases hp
  all_goals exact ⟨fun _ => rfl, rfl⟩

theorem isForm_sbc {m z : Byte} {w : Word} {p : Instr × Operand} (hp : p ∈ sbcForms m z w) :
    IsForm (opAddSub subBin subDec) p := by
  fin_cases hp
  all_goals exact ⟨fun _ => rfl, rfl⟩

section
variable {bin : Byte → Byte → Bool → AluResult} {dec : Nat → Byte → Byte → Bool → AluResult} {p : Instr × Operand}
  {s : State}

/-- ADC and SBC in any of their forms complete: the result goes where T says, the flags show it, and `dec_pending` is D
(R150, R180). -/
theorem IsForm.addSub (h : IsForm (opAddSub bin dec) p) (s : State) :
    ∃ t, exec p.1 s = .next t ∧
      TResult (s.addSub bin dec (p.2.value s)).result [.n, .v, .z, .c] s t ∧
      ShowsArith (s.addSub bin dec (p.2.value s)) t ∧ t.pc = nextPc p.1 s ∧ t.decPending = s.flag .d := by
  rw [h.exec_eq, h.nextPc_eq, opAddSub_eq]
  exact ⟨_, rfl, (flagsOnly_setArith_advance_setDecPending _ _ _).tResult s _,
    ⟨by simp, by simp, by simp, by simp⟩, by simp, rfl⟩

/-- With D = 0 the computation is the binary one (R181). -/
theorem IsForm.addSub_binary (h : IsForm (opAddSub bin dec) p) (hd : s.flag .d = false) :
    ∃ t, exec p.1 s = .next t ∧
      TResult (bin s.firstOperand (p.2.value s) (s.flag .c)).result [.n, .v, .z, .c] s t ∧
      ShowsArith (bin s.firstOperand (p.2.value s) (s.flag .c)) t ∧ EndsAt (nextPc p.1 s) t := by
  obtain ⟨t, hexec, hresult, hflags, hpc, hdec⟩ := h.addSub s
  simp only [State.addSub, hd, Bool.false_eq_true, if_false] at hresult hflags
  exact ⟨t, hexec, hresult, hflags, hpc, hdec.trans hd⟩

/-- With D = 1 it is the decimal one, and the instruction leaves `dec_pending` (R182, R46 (d)). -/
theorem IsForm.addSub_decimal (h : IsForm (opAddSub bin dec) p) (hd : s.flag .d = true) :
    ∃ t, exec p.1 s = .next t ∧
      TResult (dec s.draws s.firstOperand (p.2.value s) (s.flag .c)).result [.n, .v, .z, .c] s t ∧
      ShowsArith (dec s.draws s.firstOperand (p.2.value s) (s.flag .c)) t ∧ t.pc = nextPc p.1 s ∧
      t.decPending = true := by
  obtain ⟨t, hexec, hresult, hflags, hpc, hdec⟩ := h.addSub s
  simp only [State.addSub, hd, if_true] at hresult hflags
  exact ⟨t, hexec, hresult, hflags, hpc, hdec.trans hd⟩

end

/-- Settles O28: the binary sum, in each form. -/
theorem adcBinary : Obligations.AdcBinary := by
  intro s m z w hd p hp
  obtain ⟨t, hexec, hresult, hflags, hend⟩ := (isForm_adc hp).addSub_binary hd
  refine ⟨t, _, hexec, hresult, showsNZ_of_flags hflags.n hflags.z, hend, addBin_result_toNat _ _ _, ?_, ?_⟩
  · rw [hflags.c, addBin_c_iff]
  · rw [hflags.v, addBin_v_iff]

/-- Settles O29: the binary difference, in each form. -/
theorem sbcBinary : Obligations.SbcBinary := by
  intro s m z w hd p hp
  obtain ⟨t, hexec, hresult, hflags, hend⟩ := (isForm_sbc hp).addSub_binary hd
  refine ⟨t, _, hexec, hresult, showsNZ_of_flags hflags.n hflags.z, hend, subBin_result_toNat _ _ _, ?_, ?_⟩
  · rw [hflags.c, subBin_c_iff]
  · rw [hflags.v, subBin_v_iff]

/-- Settles O30: on two decimal numerals, the decimal sum. -/
theorem adcDecimal : Obligations.AdcDecimal := by
  intro s m z w hd p hp
  obtain ⟨t, hexec, hresult, hflags, hpc, hdec⟩ := (isForm_adc hp).addSub_decimal hd
  refine ⟨t, _, hexec, hresult, hpc, hdec, fun hP hM => ?_⟩
  obtain ⟨valid, value, carry⟩ := addDec_isDecimalResult s.draws (s.flag .c) hP hM
  exact ⟨valid, value, hflags.c ▸ carry⟩

/-- Settles O31: on two decimal numerals, the decimal difference. -/
theorem sbcDecimal : Obligations.SbcDecimal := by
  intro s m z w hd p hp
  obtain ⟨t, hexec, hresult, hflags, hpc, hdec⟩ := (isForm_sbc hp).addSub_decimal hd
  refine ⟨t, _, hexec, hresult, hpc, hdec, fun hP hM => ?_⟩
  obtain ⟨valid, value, carry⟩ := subDec_isDecimalResult s.draws (s.flag .c) hP hM
  exact ⟨valid, value, hflags.c ▸ carry⟩

/-! ### INC, DEC and the index registers -/

/-- A form of INC or DEC, `op` the operation: its operand can be written back to. -/
structure IsWriteBackForm (op : Operand → State → Result) (p : Instr × Operand) : Prop extends IsForm op p where
  ne_imm : ∀ v, p.2 ≠ .imm v

section
variable {m z : Byte} {w : Word} {p : Instr × Operand}

theorem isWriteBackForm_inc (hp : p ∈ incForms m z w) : IsWriteBackForm opInc p := by
  fin_cases hp
  all_goals exact ⟨⟨fun _ => rfl, rfl⟩, nofun⟩

theorem isWriteBackForm_dec (hp : p ∈ decForms m z w) : IsWriteBackForm opDec p := by
  fin_cases hp
  all_goals exact ⟨⟨fun _ => rfl, rfl⟩, nofun⟩

/-- An operation that writes `f` of its operand back and shows it in N and Z, in any of its forms (R185, R186). -/
theorem IsWriteBackForm.writesBack {op : Operand → State → Result} {f : Byte → Byte} (h : IsWriteBackForm op p)
    (hop : ∀ o s, op o s = .next (((o.put s (f (o.value s))).setNZ (f (o.value s))).advance o.len)) (s : State) :
    ∃ t, exec p.1 s = .next t ∧ WritesBack p.2 (f (p.2.value s)) [.n, .z] s t ∧ ShowsNZ (f (p.2.value s)) t ∧
      EndsAt (nextPc p.1 s) t := by
  rw [h.exec_eq, h.nextPc_eq, hop]
  refine ⟨_, rfl, (flagsOnly_setNZ_advance _ _).writesBack h.ne_imm s _, State.showsNZ_setNZ_advance _ _ _, ?_⟩
  rw [← Operand.put_pc s (f (p.2.value s)) p.2]
  exact State.endsAt_advance _ _

end

/-- Settles O32: INC and DEC write back the operand plus and minus one. -/
theorem incDecWriteBack : Obligations.IncDecWriteBack := by
  refine fun s m z w => ⟨fun p hp => ?inc, fun p hp => ?dec⟩
  case inc =>
    obtain ⟨t, hexec, hwrites, hshows, hend⟩ := (isWriteBackForm_inc hp).writesBack (f := (· + 1)) (fun _ _ => rfl) s
    exact ⟨t, _, hexec, BitVec.toNat_add _ _, hwrites, hshows, hend⟩
  case dec =>
    obtain ⟨t, hexec, hwrites, hshows, hend⟩ := (isWriteBackForm_dec hp).writesBack (f := (· - 1)) (fun _ _ => rfl) s
    refine ⟨t, _, hexec, ?_, hwrites, hshows, hend⟩
    rw [BitVec.toNat_sub, Nat.add_comm]
    rfl

/-- Settles O33: each loads its register with one more or one less. -/
theorem indexIncDec : Obligations.IndexIncDec := by
  refine fun s => ⟨⟨rfl, ?inx⟩, ⟨rfl, ?dex⟩, ⟨rfl, ?iny⟩, ⟨rfl, ?dey⟩⟩
  case inx => exact ⟨s.loadReg .x (s.x + 1) 1, rfl, s.loadReg_spec .x _ 1⟩
  case dex => exact ⟨s.loadReg .x (s.x - 1) 1, rfl, s.loadReg_spec .x _ 1⟩
  case iny => exact ⟨s.loadReg .y (s.y + 1) 1, rfl, s.loadReg_spec .y _ 1⟩
  case dey => exact ⟨s.loadReg .y (s.y - 1) 1, rfl, s.loadReg_spec .y _ 1⟩

/-! ### MUL and DIV -/

/-- A byte to A, a byte pushed, and the end of a two-byte instruction (R191, R192). -/
def State.loadAPush (s : State) (a v : Byte) : State := ((s.setA a).push8 v).advance 2

theorem State.loadAPush_spec (s : State) (a v : Byte) :
    (s.loadAPush a v).a = a ∧ PushesByte v [.a] [] s (s.loadAPush a v) ∧ EndsAt (s.pc + 2) (s.loadAPush a v) := by
  obtain ⟨-, keepsA⟩ := s.setReg_loadsReg .a a
  obtain ⟨stored, sp, keeps⟩ := (s.setA a).push8_pushesByte v
  have hpush : PushesByte v [.a] [] s ((s.setA a).push8 v) :=
    ⟨stored, sp, (keepsA.mono (by simp) (by simp) (by simp)).trans (keeps.mono (by simp) (by simp) (by simp))⟩
  exact ⟨rfl, (flagsOnly_advance 2).pushesByte_after hpush, State.endsAt_advance _ 2⟩

/-- The product of two bytes fits sixteen bits. -/
theorem isWord_mul (a m : Byte) :
    a.toNat * m.toNat = 256 * (highByte (BitVec.ofNat 16 (a.toNat * m.toNat))).toNat +
      (lowByte (BitVec.ofNat 16 (a.toNat * m.toNat))).toNat := by
  have hlt : a.toNat * m.toNat < 256 * 256 := Nat.mul_lt_mul'' a.isLt m.isLt
  rw [← isWord_split, BitVec.toNat_ofNat, Nat.mod_eq_of_lt hlt]

/-- MUL where the member has it (R191). -/
theorem opMul_of_hasMulDiv {s : State} (zz : Byte) (h : s.cfg.hasMulDiv = true) :
    opMul zz s =
      let prod := BitVec.ofNat 16 (s.a.toNat * (s.read .operand (zeroPage (zz + s.x))).toNat)
      .next (s.loadAPush (lowByte prod) (highByte prod)) :=
  if_pos h

/-- Settles O34: the product's two bytes, low byte in A, high byte pushed. -/
theorem mulMultiplies : Obligations.MulMultiplies := by
  refine fun s zz => ⟨rfl, fun h => if_neg (ne_true_of_eq_false h), fun h => ?_⟩
  obtain ⟨ha, hpush, hend⟩ := s.loadAPush_spec _ _
  exact ⟨_, _, opMul_of_hasMulDiv zz h, ha ▸ isWord_mul s.a _, hpush, hend⟩

/-- Where the divisor is not 0 and the quotient fits, DIV's two bytes are the quotient and the complement of the
remainder (R192). -/
theorem divResult_spec {n dividend divisor : Nat} (h0 : divisor ≠ 0) (hdivisor : divisor < 256)
    (hq : dividend / divisor ≤ 255) :
    let r := divResult n dividend divisor
    dividend = r.1.toNat * divisor + (255 - r.2.toNat) ∧ 255 - r.2.toNat < divisor := by
  have hrem : dividend % divisor < divisor := Nat.mod_lt _ (Nat.pos_of_ne_zero h0)
  have hquotient : (BitVec.ofNat 8 (dividend / divisor)).toNat = dividend / divisor :=
    Nat.mod_eq_of_lt (by omega)
  have hremainder : 255 - (~~~(BitVec.ofNat 8 (dividend % divisor))).toNat = dividend % divisor := by
    rw [BitVec.toNat_not, BitVec.toNat_ofNat]
    omega
  intro r
  have hr : r = _ := if_neg (by omega)
  rw [hr, hquotient, hremainder]
  exact ⟨(Nat.div_add_mod' _ _).symm, hrem⟩

/-- DIV where the member has it and the dividend does not lie across the end of page 0 (R192). -/
theorem opDiv_of_ne {s : State} {zz : Byte} (h : s.cfg.hasMulDiv = true) (hz : zz + s.x ≠ 0xFF#8) :
    opDiv zz s =
      let r := divResult s.draws (mkWord (s.read .operand (zeroPage (zz + s.x + 1)))
        (s.read .operand (zeroPage (zz + s.x)))).toNat s.a.toNat
      .next (s.loadAPush r.1 r.2) := by
  simp [opDiv, h, hz, State.loadAPush]

/-- Settles O35. The dividend is the word of its two bytes, which `divResult_spec` divides. -/
theorem divDivides : Obligations.DivDivides := by
  refine fun s zz => ⟨fun h => if_neg (ne_true_of_eq_false h), fun h hz => ?wraps, fun h hz => ?divides⟩
  case wraps =>
    have hwraps : (zz + s.x == 0xFF#8) = true := beq_iff_eq.2 hz
    exact (if_pos h).trans (if_pos hwraps)
  case divides =>
    obtain ⟨ha, hpush, hend⟩ := s.loadAPush_spec _ _
    refine ⟨_, _, opDiv_of_ne h hz, hpush, hend, fun h0 hq => ?_⟩
    rw [ha]
    rw [← isWord_mkWord] at hq ⊢
    exact divResult_spec h0 s.a.isLt hq

/-! ### Comparisons -/

/-- A comparison and the end of the instruction write C, Z and N (R193). -/
theorem flagsOnly_setCompare_advance (r : CompareResult) (len : Nat) :
    FlagsOnly [.c, .z, .n] fun u => (u.setCompare r).advance len := by
  constructor <;> simp +contextual [KeepsSystem, KeepsFlags]

/-- The flags of a comparison, as those of the difference (R193). -/
theorem showsCompare_of_flags {p m : Byte} {t : State} (hc : t.flag .c = (compareBytes p m).c)
    (hz : t.flag .z = (compareBytes p m).z) (hn : t.flag .n = (compareBytes p m).n) : ShowsCompare p m t := by
  have hp := p.isLt
  have hm := m.isLt
  rw [ShowsCompare, hc, hz, hn]
  refine ⟨?carry, ?zero, ?sign⟩
  case carry => simp [compareBytes]
  case zero =>
    simp only [compareBytes, decide_eq_true_eq]
    omega
  case sign =>
    simp only [compareBytes, bitOf_seven, BitVec.toNat_ofInt, decide_eq_true_eq]
    omega

section
variable {m z : Byte} {w : Word} {p : Instr × Operand}

theorem isForm_cmp (hp : p ∈ cmpForms m z w) : IsForm (fun o s => opCompare s.firstOperand o s) p := by
  fin_cases hp
  all_goals exact ⟨fun _ => rfl, rfl⟩

theorem isForm_cpx (hp : p ∈ cpxForms m z w) : IsForm (fun o s => opCompare s.x o s) p := by
  fin_cases hp
  all_goals exact ⟨fun _ => rfl, rfl⟩

theorem isForm_cpy (hp : p ∈ cpyForms m z w) : IsForm (fun o s => opCompare s.y o s) p := by
  fin_cases hp
  all_goals exact ⟨fun _ => rfl, rfl⟩

/-- A comparison of `first` with the operand, in any of its forms (R193 to R195). -/
theorem IsForm.compares {first : State → Byte} (h : IsForm (fun o s => opCompare (first s) o s) p) (s : State) :
    ∃ t, exec p.1 s = .next t ∧ EndsAt (nextPc p.1 s) t ∧ Keeps [] [.c, .z, .n] [] s t ∧
      ShowsCompare (first s) (p.2.value s) t := by
  rw [h.exec_eq, h.nextPc_eq]
  exact ⟨_, rfl, State.endsAt_advance _ _, (flagsOnly_setCompare_advance _ _).keeps s,
    showsCompare_of_flags (by simp) (by simp) (by simp)⟩

end

/-- Settles O36: CMP compares the first operand by T, CPX and CPY their index register. -/
theorem comparesCompare : Obligations.ComparesCompare := fun s _ _ _ =>
  ⟨fun _ hp => (isForm_cmp hp).compares s, fun _ hp => (isForm_cpx hp).compares s,
    fun _ hp => (isForm_cpy hp).compares s⟩

end Sys2Proof.Machine
end

section
/-! Logic, test, shift and rotate: AND, ORA, EOR (O37), COM, TST and RRF (O38), BIT (O39), the shifts (O40), the rotates
(O41) and the nine-bit rotation ROL is (O42). -/

namespace Sys2Proof.Machine

/-! ### Single bits of a byte -/

section
variable (p m : Byte) (j : Nat)

@[simp] theorem bitOf_and : bitOf (p &&& m) j = (bitOf p j && bitOf m j) := BitVec.getLsbD_and

@[simp] theorem bitOf_or : bitOf (p ||| m) j = (bitOf p j || bitOf m j) := BitVec.getLsbD_or

@[simp] theorem bitOf_xor : bitOf (p ^^^ m) j = (bitOf p j != bitOf m j) := BitVec.getLsbD_xor

end

/-- A byte is 0 when none of its eight bits is 1. -/
theorem eq_zero_iff_bitOf {v : Byte} : v = 0#8 ↔ ∀ j < 8, bitOf v j = false := by
  constructor
  · rintro rfl j -
    exact BitVec.getLsbD_zero
  · intro h
    refine BitVec.eq_of_getLsbD_eq fun j hj => ?_
    rw [BitVec.getLsbD_zero]
    exact h j hj

/-! ### AND, ORA and EOR -/

section
variable {m z : Byte} {w : Word} {p : Instr × Operand}

theorem isForm_and (hp : p ∈ andForms m z w) : IsForm opAnd p := by
  fin_cases hp
  all_goals exact ⟨fun _ => rfl, rfl⟩

theorem isForm_ora (hp : p ∈ oraForms m z w) : IsForm opOra p := by
  fin_cases hp
  all_goals exact ⟨fun _ => rfl, rfl⟩

theorem isForm_eor (hp : p ∈ eorForms m z w) : IsForm opEor p := by
  fin_cases hp
  all_goals exact ⟨fun _ => rfl, rfl⟩

/-- A logic instruction in any of its forms: `f` of the first operand and the operand goes where T says, N and Z show it
(R180, R210). -/
theorem IsForm.logic {f : Byte → Byte → Byte} (h : IsForm (opLogic f) p) (s : State) :
    ∃ t, exec p.1 s = .next t ∧ TResult (f s.firstOperand (p.2.value s)) [.n, .z] s t ∧
      ShowsNZ (f s.firstOperand (p.2.value s)) t ∧ EndsAt (nextPc p.1 s) t := by
  rw [h.exec_eq, h.nextPc_eq]
  refine ⟨_, rfl, (flagsOnly_setNZ_advance _ _).tResult s _, State.showsNZ_setNZ_advance _ _ _, ?_⟩
  rw [← s.writeResult_pc (f s.firstOperand (p.2.value s))]
  exact State.endsAt_advance _ _

end

/-- Settles O37: each instruction in any of its forms, and each operation bit by bit. -/
theorem logicOperates : Obligations.LogicOperates := by
  refine fun s m z w => ⟨fun p hp => ?and, fun p hp => ?ora, fun p hp => ?eor⟩
  case and =>
    obtain ⟨t, hexec, hresult, hshows, hend⟩ := (isForm_and hp).logic s
    exact ⟨t, _, hexec, hresult, hshows, hend, fun j _ => bitOf_and _ _ j⟩
  case ora =>
    obtain ⟨t, hexec, hresult, hshows, hend⟩ := (isForm_ora hp).logic s
    exact ⟨t, _, hexec, hresult, hshows, hend, fun j _ => bitOf_or _ _ j⟩
  case eor =>
    obtain ⟨t, hexec, hresult, hshows, hend⟩ := (isForm_eor hp).logic s
    exact ⟨t, _, hexec, hresult, hshows, hend, fun j _ => bitOf_xor _ _ j⟩

/-! ### COM, TST and RRF -/

/-- A byte written to memory and shown in N and Z at the end of the instruction (R210). -/
theorem State.write_setNZ_advance_spec (s : State) (a : Word) (v : Byte) (len : Nat) :
    Stored a v s (((s.write a v).setNZ v).advance len) ∧ ShowsNZ v (((s.write a v).setNZ v).advance len) ∧
      Keeps [] [.n, .z] [a] s (((s.write a v).setNZ v).advance len) ∧
      EndsAt (s.pc + BitVec.ofNat 16 len) (((s.write a v).setNZ v).advance len) :=
  have hend := flagsOnly_setNZ_advance v len
  ⟨hend.stored_after (s.write_stored a v), State.showsNZ_setNZ_advance _ v len, hend.keeps_after (s.write_keeps a v),
    State.endsAt_advance _ len⟩

/-- RRF: the low nibble becomes the high one and the high nibble the low one (R221). -/
theorem toNat_swapNibbles (v : Byte) : (swapNibbles v).toNat = 16 * (v.toNat % 16) + v.toNat / 16 := by
  have hlow : (v <<< 4).toNat = 2 ^ 4 * (v.toNat % 16) := by
    rw [BitVec.toNat_shiftLeft, Nat.shiftLeft_eq]
    omega
  have hhigh : (v >>> 4).toNat = v.toNat / 16 := by
    rw [BitVec.toNat_ushiftRight, Nat.shiftRight_eq_div_pow]
  have hlt : v.toNat / 16 < 2 ^ 4 := by omega
  rw [swapNibbles, BitVec.toNat_or, hlow, hhigh, ← Nat.two_pow_add_eq_or_of_lt hlt]

theorem swapNibbles_swapNibbles (v : Byte) : swapNibbles (swapNibbles v) = v := by
  apply BitVec.eq_of_toNat_eq
  rw [toNat_swapNibbles, toNat_swapNibbles]
  omega

/-- Settles O38: COM and RRF write their byte back, TST writes flags alone. -/
theorem comTstRrf : Obligations.ComTstRrf := by
  refine fun s zz => ⟨⟨rfl, ?com⟩, ⟨rfl, ?tst⟩, rfl, ?rrf⟩
  case com => exact ⟨_, _, rfl, BitVec.toNat_not, s.write_setNZ_advance_spec (zeroPage zz) _ 2⟩
  case tst =>
    exact ⟨_, rfl, State.showsNZ_setNZ_advance s _ 2, (flagsOnly_setNZ_advance _ 2).keeps s, State.endsAt_advance _ 2⟩
  case rrf =>
    obtain ⟨stored, keeps, ends⟩ := s.write_advance_spec (zeroPage zz) (swapNibbles (s.read .operand (zeroPage zz))) 2
    exact ⟨_, _, rfl, toNat_swapNibbles _, stored, keeps, ends, swapNibbles_swapNibbles _⟩

/-! ### BIT -/

/-- What BIT does to the state, `m` the byte tested (R215). -/
def State.testBits (s : State) (m : Byte) (len : Nat) : State :=
  (((s.setFlag .n (bitOf m 7)).setFlag .v (bitOf m 6)).setFlag .z (s.a &&& m == 0#8)).advance len

theorem opBit_eq (o : Operand) (s : State) : opBit o s = .next (s.testBits (o.value s) o.len) := rfl

section
variable (s : State) (m : Byte) (len : Nat)

/-- BIT stores nothing and writes N, V and Z. -/
theorem State.testBits_keeps : Keeps [] [.n, .v, .z] [] s (s.testBits m len) := by
  refine ⟨fun r _ => ?regs, fun f hf => ?flags, fun _ _ _ => rfl, rfl, rfl, rfl, rfl⟩
  case regs => cases r <;> rfl
  case flags => simp_all [State.testBits]

@[simp] theorem State.testBits_flag_n : (s.testBits m len).flag .n = bitOf m 7 := by simp [State.testBits]

@[simp] theorem State.testBits_flag_v : (s.testBits m len).flag .v = bitOf m 6 := by simp [State.testBits]

@[simp] theorem State.testBits_flag_z : (s.testBits m len).flag .z = (s.a &&& m == 0#8) := by simp [State.testBits]

end

theorem isForm_bit {m z : Byte} {w : Word} {p : Instr × Operand} (hp : p ∈ bitForms m z w) : IsForm opBit p := by
  fin_cases hp
  all_goals exact ⟨fun _ => rfl, rfl⟩

/-- Settles O39: N and V as digits of the memory byte, Z from the bits of its and with A. -/
theorem bitTestsMemory : Obligations.BitTestsMemory := by
  refine fun s z w => ⟨rfl, rfl, fun p hp => ?_⟩
  have hform := isForm_bit hp
  rw [hform.exec_eq, hform.nextPc_eq, opBit_eq]
  refine ⟨_, rfl, s.testBits_keeps _ _, State.endsAt_advance _ _, ?n, ?v, ?z⟩
  case n => rw [State.testBits_flag_n, bitOf_seven, decide_eq_true_iff]
  case v =>
    rw [State.testBits_flag_v, bitOf_eq_digit, decide_eq_true_iff]
    exact Iff.rfl
  case z => simp [eq_zero_iff_bitOf]

/-! ### ASL, LSR, ROL and ROR as operations of the machine -/

/-- C, N and Z are what a shift or rotate writes at its end (R217 to R220). -/
theorem flagsOnly_setFlag_c_setNZ_advance (c : Bool) (v : Byte) (len : Nat) :
    FlagsOnly [.n, .z, .c] fun u => ((u.setFlag .c c).setNZ v).advance len := by
  constructor <;> simp +contextual [KeepsSystem, KeepsFlags]

section
variable {m z : Byte} {w : Word} {p : Instr × Operand}

theorem isWriteBackForm_asl (hp : p ∈ aslForms m z w) : IsWriteBackForm (opShift shiftLeft) p := by
  fin_cases hp
  all_goals exact ⟨⟨fun _ => rfl, rfl⟩, nofun⟩

theorem isWriteBackForm_lsr (hp : p ∈ lsrForms m z w) : IsWriteBackForm (opShift shiftRight) p := by
  fin_cases hp
  all_goals exact ⟨⟨fun _ => rfl, rfl⟩, nofun⟩

theorem isWriteBackForm_rol (hp : p ∈ rolForms m z w) : IsWriteBackForm (opShift rotateLeft) p := by
  fin_cases hp
  all_goals exact ⟨⟨fun _ => rfl, rfl⟩, nofun⟩

theorem isWriteBackForm_ror (hp : p ∈ rorForms m z w) : IsWriteBackForm (opShift rotateRight) p := by
  fin_cases hp
  all_goals exact ⟨⟨fun _ => rfl, rfl⟩, nofun⟩

/-- A shift or rotate in any of its forms: the result of `f` is written back and shown in N and Z, its bit goes to C. -/
theorem IsWriteBackForm.shifts {f : Byte → Bool → Byte × Bool} (h : IsWriteBackForm (opShift f) p) (s : State) :
    ∃ t, exec p.1 s = .next t ∧ WritesBack p.2 (f (p.2.value s) (s.flag .c)).1 [.n, .z, .c] s t ∧
      ShowsNZ (f (p.2.value s) (s.flag .c)).1 t ∧ EndsAt (nextPc p.1 s) t ∧
      t.flag .c = (f (p.2.value s) (s.flag .c)).2 := by
  rw [h.exec_eq, h.nextPc_eq]
  refine ⟨_, rfl, (flagsOnly_setFlag_c_setNZ_advance _ _ _).writesBack h.ne_imm s _, State.showsNZ_setNZ_advance _ _ _,
    ?ends, by simp⟩
  rw [← Operand.put_pc s (f (p.2.value s) (s.flag .c)).1 p.2]
  exact State.endsAt_advance _ _

end

/-! ### The nine bits of a byte and C

`BitVec.cons c v` is C above the byte and `BitVec.concat v c` is C below it. A rotate turns one into the other; a shift
is the rotate with a 0 in the place of the old C. -/

section
variable (v : Byte) (c : Bool)

/-- ROL: C below the byte becomes C above the result (R219). -/
theorem cons_rotateLeft : BitVec.cons (rotateLeft v c).2 (rotateLeft v c).1 = BitVec.concat v c := by
  refine BitVec.eq_of_getLsbD_eq fun j hj => ?_
  rw [BitVec.getLsbD_cons, BitVec.getLsbD_concat]
  by_cases htop : j = 8
  · simp [htop, rotateLeft, bitOf]
  · have hlt : j < 8 := by omega
    have hpred : j - 1 < 8 := by omega
    rw [if_neg htop]
    refine (bitOf_setBit (v <<< 1) 0 j c (by decide)).trans ?_
    by_cases hbottom : j = 0 <;> simp [bitOf, hbottom, hlt, hpred]

/-- ROR: C above the byte becomes C below the result (R220). -/
theorem concat_rotateRight : BitVec.concat (rotateRight v c).1 (rotateRight v c).2 = BitVec.cons c v := by
  refine BitVec.eq_of_getLsbD_eq fun j hj => ?_
  rw [BitVec.getLsbD_cons, BitVec.getLsbD_concat]
  by_cases hbottom : j = 0
  · simp [hbottom, rotateRight, bitOf]
  · have hhigh := bitOf_setBit (v >>> 1) 7 (j - 1) c (by decide)
    have hsucc : 1 + (j - 1) = j := by omega
    have htop : j - 1 = 7 ↔ j = 8 := by omega
    simp_all [rotateRight, bitOf]

theorem shiftLeft_eq_rotateLeft : shiftLeft v c = rotateLeft v false := by
  refine Prod.ext (BitVec.eq_of_getLsbD_eq fun j hj => ?_) rfl
  have hbit := bitOf_setBit (v <<< 1) 0 j false (by decide)
  by_cases hbottom : j = 0 <;> simp_all [shiftLeft, rotateLeft, bitOf]

theorem shiftRight_eq_rotateRight : shiftRight v c = rotateRight v false := by
  refine Prod.ext (BitVec.eq_of_getLsbD_eq fun j hj => ?_) rfl
  have hbit := bitOf_setBit (v >>> 1) 7 j false (by decide)
  by_cases htop : j = 7 <;> simp_all [shiftRight, rotateRight, bitOf]

theorem toNat_cons_byte : (BitVec.cons c v).toNat = 256 * c.toNat + v.toNat := by
  rw [BitVec.toNat_cons', Nat.shiftLeft_eq, Nat.mul_comm]

theorem toNat_concat_byte : (BitVec.concat v c).toNat = 2 * v.toNat + c.toNat := by
  rw [BitVec.toNat_concat, Nat.mul_comm]

/-- ROL as numbers (R219). -/
theorem rotateLeft_toNat :
    2 * v.toNat + c.toNat = 256 * (rotateLeft v c).2.toNat + (rotateLeft v c).1.toNat := by
  rw [← toNat_cons_byte, cons_rotateLeft, toNat_concat_byte]

/-- ROR as numbers (R220). -/
theorem rotateRight_toNat :
    256 * c.toNat + v.toNat = 2 * (rotateRight v c).1.toNat + (rotateRight v c).2.toNat := by
  rw [← toNat_concat_byte, concat_rotateRight, toNat_cons_byte]

/-- ASL as numbers: doubling (R217). -/
theorem shiftLeft_toNat : 2 * v.toNat = 256 * (shiftLeft v c).2.toNat + (shiftLeft v c).1.toNat := by
  rw [shiftLeft_eq_rotateLeft, ← rotateLeft_toNat, Bool.toNat_false, Nat.add_zero]

/-- LSR as numbers: halving (R218). -/
theorem shiftRight_toNat : v.toNat = 2 * (shiftRight v c).1.toNat + (shiftRight v c).2.toNat := by
  rw [shiftRight_eq_rotateRight, ← rotateRight_toNat, Bool.toNat_false, Nat.mul_zero, Nat.zero_add]

end

/-- Settles O40. The result of LSR is at most half a byte, so N is 0. -/
theorem shiftsShift : Obligations.ShiftsShift := by
  refine fun s m z w => ⟨fun p hp => ?asl, fun p hp => ?lsr⟩
  case asl =>
    obtain ⟨t, hexec, hwrites, hshows, hend, hcarry⟩ := (isWriteBackForm_asl hp).shifts s
    exact ⟨t, _, hexec, hwrites, hshows, hend, hcarry ▸ shiftLeft_toNat _ _⟩
  case lsr =>
    obtain ⟨t, hexec, hwrites, ⟨hn, hz⟩, hend, hcarry⟩ := (isWriteBackForm_lsr hp).shifts s
    have hhalf := shiftRight_toNat (p.2.value s) (s.flag .c)
    have hlt := (p.2.value s).isLt
    have hpositive : t.flag .n = false := by
      rw [← Bool.not_eq_true, hn]
      omega
    exact ⟨t, _, hexec, hwrites, ⟨hn, hz⟩, hend, hpositive, hcarry ▸ hhalf⟩

/-- Settles O41, from the two rotations as numbers. -/
theorem rotatesRotate : Obligations.RotatesRotate := by
  refine fun s m z w => ⟨fun p hp => ?rol, fun p hp => ?ror⟩
  case rol =>
    obtain ⟨t, hexec, hwrites, hshows, hend, hcarry⟩ := (isWriteBackForm_rol hp).shifts s
    exact ⟨t, _, hexec, hwrites, hshows, hend, hcarry ▸ rotateLeft_toNat _ _⟩
  case ror =>
    obtain ⟨t, hexec, hwrites, hshows, hend, hcarry⟩ := (isWriteBackForm_ror hp).shifts s
    exact ⟨t, _, hexec, hwrites, hshows, hend, hcarry ▸ rotateRight_toNat _ _⟩

/-! ### ROL again and again -/

/-- The operand is no memory cell, or one in RAM. -/
def Operand.InRam (o : Operand) (s : State) : Prop := ∀ a, o.ea s = some a → s.kindAt a = .ram

/-- The nine bits ROL rotates: C above the operand (R219). -/
def Operand.withCarry (o : Operand) (s : State) : BitVec 9 := .cons (s.flag .c) (o.value s)

theorem Operand.withCarry_inj {o : Operand} {s t : State} (h : o.withCarry t = o.withCarry s) :
    o.value t = o.value s ∧ t.flag .c = s.flag .c := by
  have hvalue := congrArg (BitVec.setWidth 8) h
  have hcarry := congrArg BitVec.msb h
  simp only [Operand.withCarry, BitVec.setWidth_cons, BitVec.msb_cons] at hvalue hcarry
  exact ⟨hvalue, hcarry⟩

section
variable (x : BitVec 9) (n : Nat)

/-- Bit `j` of nine bits rotated `n` places to the left stood `n` places lower, which on nine places is `8 * n` higher. -/
theorem getLsbD_rotateLeft_nineBits {j : Nat} (hj : j < 9) : (x.rotateLeft n).getLsbD j = x.getLsbD ((j + 8 * n) % 9) := by
  rw [BitVec.getLsbD_rotateLeft]
  by_cases hlow : j < n % 9
  · have hindex : (j + 8 * n) % 9 = 9 - n % 9 + j := by omega
    simp [hlow, hindex]
  · have hindex : (j + 8 * n) % 9 = j - n % 9 := by omega
    simp [hlow, hindex, hj]

theorem rotateLeft_rotateLeft_nineBits (k : Nat) : (x.rotateLeft k).rotateLeft n = x.rotateLeft (n + k) := by
  refine BitVec.eq_of_getLsbD_eq fun j hj => ?_
  have hindex : ((j + 8 * n) % 9 + 8 * k) % 9 = (j + 8 * (n + k)) % 9 := by omega
  rw [getLsbD_rotateLeft_nineBits _ _ hj, getLsbD_rotateLeft_nineBits _ _ (Nat.mod_lt _ (by decide)),
    getLsbD_rotateLeft_nineBits _ _ hj, hindex]

/-- Any number of whole turns changes nothing. -/
theorem rotateLeft_wholeTurns : x.rotateLeft (9 * n) = x := by
  refine BitVec.eq_of_getLsbD_eq fun j hj => ?_
  have hindex : (j + 8 * (9 * n)) % 9 = j := by omega
  rw [getLsbD_rotateLeft_nineBits _ _ hj, hindex]

end

/-- C moved from above the byte to below it is a rotation of the nine bits. -/
theorem concat_eq_rotateLeft_cons (v : Byte) (c : Bool) : BitVec.concat v c = (BitVec.cons c v).rotateLeft 1 := by
  refine BitVec.eq_of_getLsbD_eq fun j hj => ?_
  rw [BitVec.getLsbD_concat, getLsbD_rotateLeft_nineBits _ _ hj, BitVec.getLsbD_cons]
  by_cases hbottom : j = 0
  · simp [hbottom]
  · have hindex : (j + 8 * 1) % 9 = j - 1 := by omega
    have hne : j - 1 ≠ 8 := by omega
    rw [hindex, if_neg hbottom, if_neg hne]

section
variable {m z : Byte} {w : Word} {p : Instr × Operand} {s t : State} {o : Operand} {r : Byte} {fs : List Flag}

/-- The address of an operand of ROL depends on X alone. -/
theorem ea_congr_of_mem_rolForms (hp : p ∈ rolForms m z w) (hx : t.x = s.x) : p.2.ea t = p.2.ea s := by
  fin_cases hp
  all_goals simp [Operand.ea, hx]

/-- What is written back to an operand leaves X and the parameters. -/
theorem WritesBack.surroundings (h : WritesBack o r fs s t) : t.x = s.x ∧ t.cfg = s.cfg := by
  obtain ⟨hmem, hacc⟩ := h
  cases ha : o.ea s with
  | none =>
    obtain ⟨-, regs, -, -, -, -, -, cfg⟩ := hacc ha
    exact ⟨regs .x (by decide), cfg⟩
  | some a =>
    obtain ⟨-, regs, -, -, -, -, -, cfg⟩ := hmem a ha
    exact ⟨regs .x (by decide), cfg⟩

/-- What is written back to A or to a RAM cell is the operand's value afterwards, where its address stays the same. -/
theorem WritesBack.value_eq (h : WritesBack o r fs s t) (ho : ∀ v, o ≠ .imm v) (hea : o.ea t = o.ea s)
    (hram : o.InRam s) : o.value t = r := by
  obtain ⟨hmem, hacc⟩ := h
  cases ha : o.ea s with
  | none =>
    obtain ⟨hresult, -⟩ := hacc ha
    have : o = .acc := by cases o <;> simp_all [Operand.ea]
    rw [this, Operand.value_acc, hresult]
  | some a =>
    obtain ⟨stored, -⟩ := hmem a ha
    rw [Operand.value_mem (hea.trans ha), stored, if_pos (hram a ha)]

/-- One ROL rotates the operand and C by one place, and its operand stays where it is. -/
theorem exec_rol_withCarry (hp : p ∈ rolForms m z w) (hram : p.2.InRam s) :
    ∃ t, exec p.1 s = .next t ∧ p.2.withCarry t = (p.2.withCarry s).rotateLeft 1 ∧ p.2.InRam t := by
  have hform := isWriteBackForm_rol hp
  obtain ⟨t, hexec, hwrites, -, -, hcarry⟩ := hform.shifts s
  obtain ⟨hx, hcfg⟩ := hwrites.surroundings
  have hea := ea_congr_of_mem_rolForms hp hx
  refine ⟨t, hexec, ?rotated, fun a ha => ?ram⟩
  case rotated =>
    rw [Operand.withCarry, hcarry, hwrites.value_eq hform.ne_imm hea hram, cons_rotateLeft, concat_eq_rotateLeft_cons]
    rfl
  case ram =>
    rw [State.kindAt, hcfg]
    exact hram a (hea.symm.trans ha)

/-- `n` ROLs rotate the operand and C by `n` places. -/
theorem repeatInstr_rol_withCarry (hp : p ∈ rolForms m z w) (n : Nat) (hram : p.2.InRam s) :
    ∃ t, repeatInstr n p.1 s = .next t ∧ p.2.withCarry t = (p.2.withCarry s).rotateLeft n := by
  induction n generalizing s with
  | zero => exact ⟨s, rfl, (rotateLeft_wholeTurns _ 0).symm⟩
  | succ n ih =>
    obtain ⟨u, hexec, hrotated, hram'⟩ := exec_rol_withCarry hp hram
    obtain ⟨t, hrepeat, hcarry⟩ := ih hram'
    refine ⟨t, ?_, ?_⟩
    · rw [repeatInstr, hexec]
      exact hrepeat
    · rw [hcarry, hrotated, rotateLeft_rotateLeft_nineBits]

end

/-- Settles O42: nine places are a whole turn of the nine bits. -/
theorem nineRotatesRestore : Obligations.NineRotatesRestore := by
  intro s m z w p hp hram
  obtain ⟨t, hrepeat, hturn⟩ := repeatInstr_rol_withCarry hp 9 hram
  exact ⟨t, hrepeat, Operand.withCarry_inj (hturn.trans (rotateLeft_wholeTurns _ 1))⟩

end Sys2Proof.Machine
end

section
/-! Bit managing: CLB and SEB (O43). -/

namespace Sys2Proof.Machine

/-- The Op-Code of a bit instruction as a number: its bit number stands in bits 7 to 5, so it counts 0x20-fold (R95). -/
theorem bitNo_append_eq_add (b : BitNo) (low : BitVec 5) :
    (b ++ low : Byte) = low.setWidth 8 + 0x20#8 * b.setWidth 8 := by
  decide +revert

/-- The forms that write `v` to bit `b`: SEB where `v` is 1 (R242), CLB where it is 0 (R241). -/
def writeBitForms (b : BitNo) (zz : Byte) (v : Bool) : List (Instr × Operand) :=
  if v then [(.sebAcc b, .acc), (.sebZp b zz, .zp zz)] else [(.clbAcc b, .acc), (.clbZp b zz, .zp zz)]

section
variable {b : BitNo} {zz : Byte} {v : Bool} {p : Instr × Operand}

theorem isWriteBackForm_writeBit (hp : p ∈ writeBitForms b zz v) : IsWriteBackForm (opWriteBit b v) p := by
  cases v
  all_goals
    fin_cases hp
    all_goals exact ⟨⟨fun _ => rfl, rfl⟩, nofun⟩

/-- CLB or SEB in either form: the operand with its bit `b` set to `v` is written back, and no flag with it. -/
theorem IsWriteBackForm.writesBit (h : IsWriteBackForm (opWriteBit b v) p) (s : State) :
    ∃ t, exec p.1 s = .next t ∧ WritesBack p.2 (setBit (p.2.value s) b.toNat v) [] s t ∧ EndsAt (nextPc p.1 s) t := by
  rw [h.exec_eq, h.nextPc_eq]
  refine ⟨_, rfl, (flagsOnly_advance _).writesBack h.ne_imm s _, ?ends⟩
  rw [← Operand.put_pc s (setBit (p.2.value s) b.toNat v) p.2]
  exact State.endsAt_advance _ _

end

/-- Settles O43: the byte written back is `setBit` of the operand, which `bitOf_setBit` reads bit by bit. -/
theorem clbSebWriteOneBit : Obligations.ClbSebWriteOneBit := by
  intro s b zz v
  refine ⟨by simp [encode, bitNo_append_eq_add], fun p (hp : p ∈ writeBitForms b zz v) => ?writes⟩
  obtain ⟨t, hexec, hwrites, hend⟩ := (isWriteBackForm_writeBit hp).writesBit s
  exact ⟨t, _, hexec, hwrites, hend, fun j _ => bitOf_setBit (p.2.value s) b.toNat j v b.isLt⟩

end Sys2Proof.Machine
end

section
/-! Flag setting: the instructions that write one flag (O44), and CLC, SEC and CLD, which do so unless a decimal ADC or
SBC stands right before them (O45). -/

namespace Sys2Proof.Machine

/-! ### The updates the instructions are made of -/

theorem flagsOnly_setFlag (f : Flag) (v : Bool) : FlagsOnly [f] fun u => u.setFlag f v := by
  constructor <;> simp +contextual [KeepsSystem, KeepsFlags]

/-- The I remembered for the next boundary is no flag of PS. -/
theorem flagsOnly_rememberI (old : Bool) : FlagsOnly [] fun u => u.rememberI old := by
  constructor <;> simp [KeepsSystem, KeepsFlags]

/-- An update of flags after a frame adds the flags it writes to it. -/
theorem FlagsOnly.keeps_append {rs : List Reg} {fs gs : List Flag} {as : List Word} {s t : State} {f : State → State}
    (hf : FlagsOnly gs f) (h : Keeps rs fs as s t) : Keeps rs (fs ++ gs) as s (f t) :=
  .trans (h.mono (List.Subset.refl _) (List.subset_append_left _ _) (List.Subset.refl _))
    ((hf.keeps t).mono (List.nil_subset _) (List.subset_append_right _ _) (List.nil_subset _))

/-! ### The operations -/

section
variable {s : State} (f : Flag) (v : Bool)

theorem opSetFlag_spec (s : State) :
    ∃ t, opSetFlag f v s = .next t ∧ t.flag f = v ∧ Keeps [] [f] [] s t ∧ EndsAt (s.pc + 1) t :=
  ⟨_, rfl, by simp, (flagsOnly_advance 1).keeps_append ((flagsOnly_setFlag f v).keeps s), State.endsAt_advance _ 1⟩

theorem opSetI_spec (s : State) :
    ∃ t, opSetI v s = .next t ∧ t.flag .i = v ∧ Keeps [] [.i] [] s t ∧ EndsAt (s.pc + 1) t ∧
      t.oldI = some (s.flag .i) := by
  obtain ⟨t, hset, hflag, keeps, ends⟩ := opSetFlag_spec .i v s
  cases hset
  exact ⟨_, rfl, hflag, (flagsOnly_rememberI _).keeps_append keeps, ends, rfl⟩

/-- With no decimal ADC or SBC before it, one flag is written as by SED (R251 to R253). -/
theorem opSetFlagAfterDecimal_eq_opSetFlag (h : s.decPending = false) :
    opSetFlagAfterDecimal f v s = opSetFlag f v s := by
  simp [opSetFlagAfterDecimal, opSetFlag, h]

/-- Right behind a decimal ADC or SBC both C and D are drawn, whatever the flag was to be (R368, D14). -/
theorem opSetFlagAfterDecimal_of_decPending (h : s.decPending = true) :
    ∃ t, opSetFlagAfterDecimal f v s = .next t ∧ Keeps [] [.c, .d] [] s t ∧ EndsAt (s.pc + 1) t := by
  have keeps := (flagsOnly_setFlag .d (Config.freeBit .hazardD s.draws)).keeps_append
    ((flagsOnly_setFlag .c (Config.freeBit .hazardC s.draws)).keeps s)
  exact ⟨_, if_pos h, (flagsOnly_advance 1).keeps_append keeps, State.endsAt_advance _ 1⟩

end

/-! ### The instructions, each with its flag and the value written -/

/-- SED, CLT, SET and CLV (R254, R257 to R259). -/
def oneFlagSetters : List (Instr × Flag × Bool) :=
  [(.sed, .d, true), (.clt, .t, false), (.set, .t, true), (.clv, .v, false)]

/-- CLC, SEC and CLD (R251 to R253). -/
def afterDecimalSetters : List (Instr × Flag × Bool) := [(.clc, .c, false), (.sec, .c, true), (.cld, .d, false)]

/-- CLI and SEI, which write I (R255, R256). -/
def interruptFlagSetters : List (Instr × Bool) := [(.cli, false), (.sei, true)]

section
variable {p : Instr × Flag × Bool} (s : State)

theorem exec_of_mem_oneFlagSetters (hp : p ∈ oneFlagSetters) : exec p.1 s = opSetFlag p.2.1 p.2.2 s := by
  fin_cases hp
  all_goals rfl

theorem exec_of_mem_afterDecimalSetters (hp : p ∈ afterDecimalSetters) :
    exec p.1 s = opSetFlagAfterDecimal p.2.1 p.2.2 s := by
  fin_cases hp
  all_goals rfl

theorem exec_of_mem_interruptFlagSetters {q : Instr × Bool} (hq : q ∈ interruptFlagSetters) :
    exec q.1 s = opSetI q.2 s := by
  fin_cases hq
  all_goals rfl

end

/-- Settles O45, by `dec_pending`: without it the operation is the one of SED, with it C and D are drawn. -/
theorem carryDecimalSetters : Obligations.CarryDecimalSetters := by
  intro s p hp
  rw [exec_of_mem_afterDecimalSetters s hp]
  refine ⟨fun h => ?clear, fun h => ?pending⟩
  case clear =>
    rw [opSetFlagAfterDecimal_eq_opSetFlag _ _ h]
    exact opSetFlag_spec _ _ s
  case pending => exact opSetFlagAfterDecimal_of_decPending _ _ h

/-- Settles O44: the four instructions that write one flag only, then the two that also leave the old I behind. -/
theorem flagSettersSetOneFlag : Obligations.FlagSettersSetOneFlag := by
  refine fun s => ⟨fun p hp => ?plain, fun p hp => ?interrupt⟩
  case plain =>
    rw [exec_of_mem_oneFlagSetters s hp]
    exact opSetFlag_spec _ _ s
  case interrupt =>
    rw [exec_of_mem_interruptFlagSetters s hp]
    exact opSetI_spec _ s

end Sys2Proof.Machine
end

section
/-! Jumps, branches and returns: JMP (O46), the branches (O47, O48), JSR and RTS (O49 to O51), RTI (O53), and an
interrupt or BRK undone by RTI (O56). -/

namespace Sys2Proof.Machine

/-! ### A control transfer -/

/-- A control transfer writes no flag. -/
theorem flagsOnly_goto (target : Word) : FlagsOnly [] fun u => u.goto target := by
  constructor <;> simp [KeepsSystem, KeepsFlags]

theorem State.endsAt_goto (s : State) (target : Word) : EndsAt target (s.goto target) := ⟨rfl, rfl⟩

theorem State.goto_spec (s : State) (target : Word) :
    EndsAt target (s.goto target) ∧ Keeps [] [] [] s (s.goto target) :=
  ⟨s.endsAt_goto target, (flagsOnly_goto target).keeps s⟩

/-! ### JMP -/

/-- The pointer stands at the last address of a page (R134). -/
theorem lowByte_beq_ff_iff {w : Word} : (lowByte w == 0xFF#8) = true ↔ w.toNat % 256 = 255 := by
  rw [beq_iff_eq, ← toNat_lowByte]
  exact BitVec.toNat_eq

/-- Settles O46: each form that is not refused is a control transfer to its address or to the word at its pointer. -/
theorem jmpJumps : Obligations.JmpJumps := by
  refine fun s w zz => ⟨⟨_, rfl, s.goto_spec w⟩, fun h => ?refused, fun h => ?indirect, ?zeroPageIndirect⟩
  case refused => exact if_pos (lowByte_beq_ff_iff.2 h)
  case indirect =>
    obtain ⟨ends, keeps⟩ := s.goto_spec (s.pointerAt w)
    exact ⟨_, _, if_neg (mt lowByte_beq_ff_iff.1 h), ends, keeps, isWord_mkWord _ _⟩
  case zeroPageIndirect =>
    obtain ⟨ends, keeps⟩ := s.goto_spec (s.zpPointer zz)
    exact ⟨_, _, rfl, ends, keeps, isWord_mkWord _ _⟩

/-! ### Branches -/

/-- The target counts from the next instruction's address, and its sum wraps modulo 65536 (R130, D29). -/
theorem State.branchTarget_eq_branchTo (s : State) (len : Nat) (disp : Byte) :
    s.branchTarget len disp = branchTo (s.pc + BitVec.ofNat 16 len) disp := by
  rw [branchTo, BitVec.ofInt_add, BitVec.ofInt_natCast, BitVec.ofNat_toNat, BitVec.setWidth_eq]
  rfl

/-- A branch, taken or not: the PC, and nothing else. -/
theorem opBranch_spec (taken : Bool) (len : Nat) (disp : Byte) (s : State) :
    ∃ t, opBranch taken len disp s = .next t ∧ Keeps [] [] [] s t ∧
      EndsAt (if taken then branchTo (s.pc + BitVec.ofNat 16 len) disp else s.pc + BitVec.ofNat 16 len) t := by
  rw [← s.branchTarget_eq_branchTo]
  cases taken
  case true => exact ⟨_, rfl, (flagsOnly_goto _).keeps s, s.endsAt_goto _⟩
  case false => exact ⟨_, rfl, (flagsOnly_advance len).keeps s, s.endsAt_advance len⟩

/-- BRA and the conditional branches, each with whether it is taken (R272, R276 to R283). -/
def flagBranches (s : State) (d : Byte) : List (Instr × Bool) :=
  [(.bra d, true), (.bcc d, s.flag .c == false), (.bcs d, s.flag .c == true), (.bne d, s.flag .z == false),
   (.beq d, s.flag .z == true), (.bpl d, s.flag .n == false), (.bmi d, s.flag .n == true), (.bvc d, s.flag .v == false),
   (.bvs d, s.flag .v == true)]

theorem exec_of_mem_flagBranches {s : State} {d : Byte} {p : Instr × Bool} (hp : p ∈ flagBranches s d) :
    exec p.1 s = opBranch p.2 2 d s := by
  simp only [flagBranches, beq_true, beq_false] at hp
  fin_cases hp
  all_goals rfl

/-- Settles O47: each is a branch of two bytes. -/
theorem branchesOnFlags : Obligations.BranchesOnFlags := by
  intro s d p hp
  rw [exec_of_mem_flagBranches hp]
  exact opBranch_spec p.2 2 d s

/-- The forms that branch when bit `b` is `v`, each with the byte tested: BBS where `v` is 1 (R275), BBC where it is 0
(R274). -/
def bitBranches (s : State) (b : BitNo) (zz d : Byte) (v : Bool) : List (Instr × Byte) :=
  if v then [(.bbsAcc b d, s.a), (.bbsZp b zz d, s.read .operand (zeroPage zz))]
  else [(.bbcAcc b d, s.a), (.bbcZp b zz d, s.read .operand (zeroPage zz))]

theorem exec_of_mem_bitBranches {s : State} {b : BitNo} {zz d : Byte} {v : Bool} {p : Instr × Byte}
    (hp : p ∈ bitBranches s b zz d v) :
    exec p.1 s = opBranch (bitOf p.2 b.toNat == v) (encode p.1).length d s := by
  cases v
  all_goals
    fin_cases hp
    all_goals rfl

/-- Settles O48: each is a branch as long as its encoding. -/
theorem branchesOnBits : Obligations.BranchesOnBits := by
  intro s b zz d v p hp
  rw [exec_of_mem_bitBranches hp]
  simpa only [beq_iff_eq, nextPc] using opBranch_spec (bitOf p.2 b.toNat == v) (encode p.1).length d s

/-! ### A word pushed -/

/-- Two bytes pushed one after another, `hi` and then `lo` (R27, R65), and nothing else but S changed. -/
structure PushesWord (hi lo : Byte) (s t : State) : Prop where
  high : Stored (s.stackAddr s.sp) hi s t
  low : Stored (s.stackAddr (s.sp - 1)) lo s t
  sp : t.sp = s.sp - 2
  keeps : Keeps [.s] [] [s.stackAddr s.sp, s.stackAddr (s.sp - 1)] s t

/-- Each of the two pushes leaves the other's cell as it is. -/
theorem State.pushWord_pushesWord (s : State) (w : Word) : PushesWord (highByte w) (lowByte w) s (s.pushWord w) := by
  obtain ⟨storedHigh, -, keepsHigh⟩ := s.push8_pushesByte (highByte w)
  obtain ⟨storedLow, -, keepsLow⟩ := (s.push8 (highByte w)).push8_pushesByte (lowByte w)
  have ⟨_, _, memHigh, _⟩ := keepsHigh
  have ⟨_, _, memLow, _⟩ := keepsLow
  have hne : s.stackAddr s.sp ≠ s.stackAddr (s.sp - 1) := by simp [ne_sub_one]
  refine ⟨fun k => ?high, fun k => ?low, sub_one_one s.sp, ?keeps⟩
  case high => exact (memLow k _ (List.mem_singleton.not.2 hne)).trans (storedHigh k)
  case low =>
    rw [← memHigh k _ (List.mem_singleton.not.2 hne.symm)]
    exact storedLow k
  case keeps =>
    exact (keepsHigh.mono (by simp) (by simp) (by simp)).trans (keepsLow.mono (by simp) (by simp) (by simp))

theorem PushesWord.goto_after {hi lo : Byte} {s t : State} (h : PushesWord hi lo s t) (target : Word) :
    PushesWord hi lo s (t.goto target) :=
  have hend := flagsOnly_goto target
  ⟨hend.stored_after h.high, hend.stored_after h.low, h.sp, hend.keeps_after h.keeps⟩

/-! ### JSR -/

/-- `i` is a call, `target` the address it forms from the state behind its pushes (R273, D20). -/
structure IsCall (target : State → Word) (i : Instr) : Prop where
  exec_eq : ∀ s, exec i s = opJsr (encode i).length target s
  length_pos : 0 < (encode i).length

/-- Each form of JSR is a call with its own target: Absolute, Special Page, Zero Page Indirect (R273). -/
theorem exists_isCall_of_mem {w : Word} {zz : Byte} {i : Instr} (hi : i ∈ [Instr.jsrAbs w, .jsrSp zz, .jsrZpind zz]) :
    ∃ target, IsCall target i ∧ (i = .jsrAbs w → ∀ u, target u = w) ∧
      (i = .jsrSp zz → ∀ u, target u = specialPage zz) ∧ (i = .jsrZpind zz → ∀ u, target u = u.zpPointer zz) := by
  fin_cases hi
  · exact ⟨fun _ => w, ⟨fun _ => rfl, Nat.succ_pos _⟩, fun _ _ => rfl, nofun, nofun⟩
  · exact ⟨fun _ => specialPage zz, ⟨fun _ => rfl, Nat.succ_pos _⟩, nofun, fun _ _ => rfl, nofun⟩
  · exact ⟨fun u => u.zpPointer zz, ⟨fun _ => rfl, Nat.succ_pos _⟩, nofun, nofun, fun _ _ => rfl⟩

/-- The saved address, that of the last byte of the instruction, is one below the next instruction's (R273, D22). -/
theorem State.returnAddress_eq_nextPc_sub_one (s : State) {i : Instr} (h : 0 < (encode i).length) :
    s.returnAddress (encode i).length = nextPc i s - 1 := by
  obtain ⟨n, hn⟩ := Nat.exists_eq_add_one.2 h
  rw [State.returnAddress, nextPc, hn, Nat.add_sub_cancel, BitVec.ofNat_add, ← BitVec.add_assoc]
  exact (BitVec.add_sub_cancel _ _).symm

/-- A call: the saved address is pushed, and the target is formed in the state `u` the pushes leave. -/
theorem IsCall.calls {target : State → Word} {i : Instr} (h : IsCall target i) (s : State) :
    ∃ t hi lo, exec i s = .next t ∧ IsWord (nextPc i s - 1) hi lo ∧ PushesWord hi lo s t ∧ t.decPending = false ∧
      ∃ u, t.pc = target u ∧ ∀ k a, t.read k a = u.read k a := by
  rw [h.exec_eq, ← s.returnAddress_eq_nextPc_sub_one h.length_pos]
  exact ⟨_, _, _, rfl, isWord_split _, (s.pushWord_pushesWord _).goto_after _, rfl, _, rfl, fun _ _ => rfl⟩

theorem toNat_specialPage (pp : Byte) : (specialPage pp).toNat = 0xFF00 + pp.toNat := toNat_mkWord _ _

/-- Settles O49: every form is a call. The zero-page pointer reads the same in the last state as behind the pushes,
where the target is formed. -/
theorem jsrCalls : Obligations.JsrCalls := by
  intro s w zz i hmem
  obtain ⟨target, hcall, habs, hsp, hzpind⟩ := exists_isCall_of_mem hmem
  obtain ⟨t, hi, lo, hexec, hword, ⟨high, low, sp, keeps⟩, hdec, u, hpc, hread⟩ := hcall.calls s
  refine ⟨t, hi, lo, hexec, hword, high, low, sp, keeps, hdec, fun h => ?abs, fun h => ?specialPage, fun h => ?zpind⟩
  case abs => rw [hpc, habs h]
  case specialPage => rw [hpc, hsp h, toNat_specialPage]
  case zpind =>
    rw [hpc, hzpind h, hread, hread]
    exact isWord_mkWord _ _

/-! ### RTS -/

theorem add_one_one (v : Byte) : v + 1 + 1 = v + 2 := BitVec.add_assoc v 1 1

theorem add_one_one_one (v : Byte) : v + 1 + 1 + 1 = v + 3 :=
  (BitVec.add_assoc (v + 1) 1 1).trans (BitVec.add_assoc v 1 2)

/-- The word two pulls give is the one the two bytes above S hold, low byte first (R28, R65). -/
theorem State.isWord_pulledWord (s : State) :
    IsWord s.pulledWord (s.read .stack (s.stackAddr (s.sp + 2))) (s.read .stack (s.stackAddr (s.sp + 1))) := by
  rw [← add_one_one]
  exact isWord_mkWord _ _

/-- Settles O50: two pulls write S alone, and the control transfer goes behind the word pulled. -/
theorem rtsReturns : Obligations.RtsReturns := fun s =>
  ⟨_, s.pulledWord, rfl, add_one_one s.sp, (flagsOnly_goto _).keeps_after (s.popped_keeps.trans s.popped.popped_keeps),
    State.endsAt_goto _ _, s.isWord_pulledWord⟩

/-! ### A call and its return -/

/-- Two bytes make one word. -/
theorem IsWord.unique {w w' : Word} {hi lo : Byte} (h : IsWord w hi lo) (h' : IsWord w' hi lo) : w = w' :=
  BitVec.eq_of_toNat_eq (h.trans h'.symm)

/-- The stack stands in the same page as long as the parameters are the same (R25). -/
theorem State.stackAddr_congr {s t : State} (h : t.cfg = s.cfg) (p : Byte) : t.stackAddr p = s.stackAddr p := by
  simp only [State.stackAddr, State.stackPage, h]

/-- A byte stored in RAM is read back. -/
theorem Stored.read_eq {a : Word} {v : Byte} {s t : State} (h : Stored a v s t) (hram : s.kindAt a = .ram)
    (k : Access) : t.read k a = v :=
  (h k).trans (if_pos hram)

/-- Every register is as before when all but S are, and S is. -/
theorem keepsRegs_of_sp {s t : State} (h : KeepsRegs [.s] s t) (hsp : t.sp = s.sp) : KeepsRegs [] s t := by
  intro r _
  by_cases hr : r = .s
  · rw [hr]
    exact hsp
  · exact h r (List.mem_singleton.not.2 hr)

/-- Settles O51: RTS pulls the two bytes JSR pushed, from the cells it pushed them to. -/
theorem jsrThenRtsReturns : Obligations.JsrThenRtsReturns := by
  intro s w zz hramHigh hramLow i hmem
  obtain ⟨t, hi, lo, hcall, hword, high, low, hspT, ⟨regsT, flagsT, -, -, -, -, hcfg⟩, -⟩ := jsrCalls s w zz i hmem
  obtain ⟨u, q, hreturn, hspU, ⟨regsU, flagsU, -⟩, ⟨hpc, -⟩, hpulled⟩ := rtsReturns t
  have htop : t.sp + 2 = s.sp := by rw [hspT, BitVec.sub_add_cancel]
  have hbelow : t.sp + 1 = s.sp - 1 := by bv_omega
  rw [State.stackAddr_congr hcfg, State.stackAddr_congr hcfg, htop, hbelow, high.read_eq hramHigh,
    low.read_eq hramLow] at hpulled
  refine ⟨t, u, hcall, hreturn, ?pc, keepsRegs_of_sp (fun r hr => (regsU r hr).trans (regsT r hr)) (hspU.trans htop),
    fun f hf => (flagsU f hf).trans (flagsT f hf)⟩
  rw [hpc, hpulled.unique hword, BitVec.sub_add_cancel]

/-! ### RTI -/

/-- Settles O53. PS is written whole, so each flag is its bit of the first byte pulled. -/
theorem rtiReturns : Obligations.RtiReturns := by
  refine fun s => ⟨s.returnFromInterrupt, rfl, ?sp, (effect_rti rfl).regs, fun f => ?flags, ?pc,
    fun k a _ => s.returnFromInterrupt_read k a, ?system, ⟨rfl, s.returnFromInterrupt_decPending⟩,
    s.returnFromInterrupt_oldI⟩
  case sp => rw [s.returnFromInterrupt_sp, add_one_one_one]
  case flags =>
    rw [State.flag, s.returnFromInterrupt_ps]
    rfl
  case pc =>
    rw [s.returnFromInterrupt_pc, add_one_one_one, add_one_one]
    exact isWord_mkWord _ _
  case system => exact ⟨rfl, rfl, rfl, rfl⟩

/-! ### An entry and its return -/

/-- What RTI needs of an interrupt entry or BRK that saves `ret` and PS with B = `b` (R326, R328): the three bytes on
the stack, S, and the other registers and the parameters as before. -/
structure SavesForRti (b : Bool) (ret : Word) (s t : State) : Prop where
  high : Stored (s.stackAddr s.sp) (highByte ret) s t
  low : Stored (s.stackAddr (s.sp - 1)) (lowByte ret) s t
  ps : Stored (s.stackAddr (s.sp - 2)) (s.setFlag .b b).ps s t
  sp : t.sp = s.sp - 3
  regs : KeepsRegs [.s] s t
  cfg : t.cfg = s.cfg

theorem State.enterInterrupt_savesForRti (s : State) (b : Bool) (ret v : Word) :
    SavesForRti b ret s (s.enterInterrupt b ret v) := by
  obtain ⟨high, low, ps, sp, regs, -⟩ := s.enterInterrupt_spec b ret v
  exact ⟨high, low, ps, sp, regs, s.enterInterrupt_cfg b ret v⟩

/-- Dropping the request taken touches nothing that is saved. -/
theorem State.interruptEntry_savesForRti (s : State) (k : Nat) : SavesForRti false s.pc s (s.interruptEntry k) := by
  obtain ⟨high, low, ps, sp, regs, cfg⟩ := s.enterInterrupt_savesForRti false s.pc (s.vectorOf k)
  exact ⟨high, low, ps, sp, fun r hr => regs r hr, cfg⟩

/-- RTI pulls the three bytes from the cells they were saved to: only B is not as before, and it is the `b` saved. -/
theorem SavesForRti.returns {b : Bool} {ret : Word} {s t : State} (h : SavesForRti b ret s t)
    (hramHigh : s.kindAt (s.stackAddr s.sp) = .ram) (hramLow : s.kindAt (s.stackAddr (s.sp - 1)) = .ram)
    (hramPs : s.kindAt (s.stackAddr (s.sp - 2)) = .ram) :
    ∃ u, exec .rti t = .next u ∧ u.pc = ret ∧ KeepsRegs [] s u ∧ KeepsFlags [.b] s u ∧ u.flag .b = b := by
  obtain ⟨u, hexec, hsp, regs, hflags, hpc, -⟩ := rtiReturns t
  have hsp3 : t.sp + 3 = s.sp := by rw [h.sp, BitVec.sub_add_cancel]
  have hsp2 : t.sp + 2 = s.sp - 1 := by bv_omega
  have hsp1 : t.sp + 1 = s.sp - 2 := by bv_omega
  rw [State.stackAddr_congr h.cfg, State.stackAddr_congr h.cfg, hsp3, hsp2, h.high.read_eq hramHigh,
    h.low.read_eq hramLow] at hpc
  have hps : ∀ f, u.flag f = (s.setFlag .b b).flag f := by
    intro f
    rw [hflags, State.stackAddr_congr h.cfg, hsp1, h.ps.read_eq hramPs]
    rfl
  refine ⟨u, hexec, hpc.unique (isWord_split ret),
    keepsRegs_of_sp (fun r hr => (regs r hr).trans (h.regs r hr)) (hsp.trans hsp3), fun f hf => ?others, ?b⟩
  case others => rw [hps, State.flag_setFlag, if_neg (List.mem_singleton.not.1 hf)]
  case b => rw [hps, State.flag_setFlag, if_pos rfl]

/-- Settles O56: an interrupt entry saves the PC and B = 0, BRK the PC plus 2 and B = 1. -/
theorem entryThenRtiRestores : Obligations.EntryThenRtiRestores := by
  refine fun s k hramHigh hramLow hramPs => ⟨?interrupt, ?brk⟩
  case interrupt => exact (s.interruptEntry_savesForRti k).returns hramHigh hramLow hramPs
  case brk =>
    have hsaves := s.enterInterrupt_savesForRti true (s.pc + 2) s.brkVectorUsed
    obtain ⟨u, hreturns⟩ := hsaves.returns hramHigh hramLow hramPs
    exact ⟨_, u, rfl, hreturns⟩

end Sys2Proof.Machine
end

section
/-! Interrupts and the instructions of 47_interrupt_special_other.md: the request taken (O54), the interrupt sequence
(O55), BRK (O52), WIT and STP (O57), how long they last (O58), and NOP (O59). -/

namespace Sys2Proof.Machine

/-! ### Requests -/

/-- Request `k`, of the source `e`, may be taken as far as its own bits and the run state go (R302, R322, R324). -/
def State.Qualifies (s : State) (k : Nat) (e : IrqSource) : Prop :=
  s.pending.getD k false = true ∧ s.enabled.getD k false = true ∧ (s.runState = .stopped → e.wakesStop = true)

section
variable {s : State} {k : Nat} {e : IrqSource}

theorem State.vectorOf_eq (he : s.cfg.irqTable[k]? = some e) : s.vectorOf k = e.vector := by
  simp only [State.vectorOf, he]

theorem State.wakesStop_eq (he : s.cfg.irqTable[k]? = some e) : s.wakesStop k = e.wakesStop := by
  simp only [State.wakesStop, he]

theorem State.mem_qualifying_iff (he : s.cfg.irqTable[k]? = some e) : k ∈ s.qualifying ↔ s.Qualifies k e := by
  obtain ⟨hk, -⟩ := List.getElem?_eq_some_iff.1 he
  have hrun : (s.runState != .stopped || s.wakesStop k) = true ↔ (s.runState = .stopped → e.wakesStop = true) := by
    rw [State.wakesStop_eq he, Bool.or_eq_true, bne_iff_ne, Decidable.imp_iff_not_or]
  rw [State.qualifying, List.mem_filter, State.mem_reaching, hrun, State.Qualifies, and_iff_right hk, and_assoc]

/-- The requests that qualify are those of the entries of IRQ_TABLE that do. -/
theorem State.mem_qualifying : k ∈ s.qualifying ↔ ∃ e, s.cfg.irqTable[k]? = some e ∧ s.Qualifies k e := by
  constructor
  · intro h
    obtain ⟨hreaching, -⟩ := List.mem_filter.1 h
    obtain ⟨hk, -⟩ := State.mem_reaching.1 hreaching
    have he := List.getElem?_eq_getElem hk
    exact ⟨_, he, (State.mem_qualifying_iff he).1 h⟩
  · rintro ⟨e, he, h⟩
    exact (State.mem_qualifying_iff he).2 h

theorem State.not_mem_qualifying : k ∉ s.qualifying ↔ ∀ e, s.cfg.irqTable[k]? = some e → ¬s.Qualifies k e := by
  simp only [State.mem_qualifying, not_exists, not_and]

/-- The first of strictly rising numbers is the least of them. -/
theorem head?_eq_some_iff_least {l : List Nat} (hl : l.Pairwise (· < ·)) :
    l.head? = some k ↔ k ∈ l ∧ ∀ j < k, j ∉ l := by
  cases l with
  | nil => simp
  | cons a rest =>
    have hrest : ∀ j ∈ rest, a < j := fun _ => List.rel_of_pairwise_cons hl
    rw [List.head?_cons, Option.some_inj]
    constructor
    · rintro rfl
      refine ⟨List.mem_cons_self, fun j hj hmem => ?_⟩
      rcases List.mem_cons.1 hmem with rfl | hmem
      · exact Nat.lt_irrefl _ hj
      · exact Nat.lt_asymm hj (hrest _ hmem)
    · rintro ⟨hk, hleast⟩
      rcases List.mem_cons.1 hk with rfl | hk
      · rfl
      · exact absurd List.mem_cons_self (hleast a (hrest _ hk))

/-- The highest-ranked request that qualifies is the one with the least place in IRQ_TABLE (R325, log 16). -/
theorem State.qualifying_head?_iff :
    s.qualifying.head? = some k ↔ k ∈ s.qualifying ∧ ∀ j < k, j ∉ s.qualifying :=
  head?_eq_some_iff_least ((List.pairwise_lt_range.filter _).filter _)

theorem State.irqOpen_iff : s.irqOpen = true ↔ s.flag .i = false ∨ s.oldI = some false := by
  simp [State.irqOpen]

/-- When request `k` is taken: I lets it through, the free choice takes one now, and it is the highest-ranked one that
qualifies (R323 to R325, D17). -/
theorem State.acceptedRequest_eq_some_iff :
    s.acceptedRequest = some k ↔
      s.irqOpen = true ∧ Config.freeBit .acceptRequest s.draws = true ∧ k ∈ s.qualifying ∧
        ∀ j < k, j ∉ s.qualifying := by
  rw [← State.qualifying_head?_iff, State.acceptedRequest]
  cases s.qualifying with
  | nil => simp
  | cons j rest => simp [and_assoc]

theorem State.acceptedRequest_eq_none_of_masked (hi : s.flag .i = true) (hold : s.oldI ≠ some false) :
    s.acceptedRequest = none := by
  refine Option.eq_none_iff_forall_ne_some.2 fun k h => ?_
  obtain ⟨hopen, -⟩ := State.acceptedRequest_eq_some_iff.1 h
  rcases State.irqOpen_iff.1 hopen with hclear | hwasClear
  · rw [hi] at hclear
    cases hclear
  · exact hold hwasClear

theorem State.acceptedRequest_eq_none_of_postponed (h : Config.freeBit .acceptRequest s.draws = false) :
    s.acceptedRequest = none := by
  refine Option.eq_none_iff_forall_ne_some.2 fun k hk => ?_
  obtain ⟨-, htaken, -⟩ := State.acceptedRequest_eq_some_iff.1 hk
  rw [h] at htaken
  cases htaken

end

/-- Settles O54: a request taken is let through by I and the first in IRQ_TABLE that qualifies. -/
theorem takenRequestQualifies : Obligations.TakenRequestQualifies := by
  refine fun s => ⟨State.acceptedRequest_eq_none_of_masked, ?_⟩
  cases h : s.acceptedRequest with
  | none => exact .inl rfl
  | some k =>
    obtain ⟨hopen, -, hmem, hfirst⟩ := State.acceptedRequest_eq_some_iff.1 h
    obtain ⟨e, he, hpending, henabled, hwakes⟩ := State.mem_qualifying.1 hmem
    exact .inr ⟨k, e, rfl, he, hpending, henabled, State.irqOpen_iff.1 hopen, hwakes,
      fun j hj => State.not_mem_qualifying.1 (hfirst j hj)⟩

/-! ### The interrupt sequence -/

/-- A request taken is entered (R326). -/
theorem step_of_acceptedRequest {s : State} {k : Nat} (h : s.acceptedRequest = some k) :
    step s = .next (s.interruptEntry k).tick := by
  simp only [step, cpuStep, h]

/-- A request bit dropped is dropped. -/
theorem getD_set_false_self (l : List Bool) (k : Nat) : (l.set k false).getD k false = false := by
  rw [List.getD_eq_getElem?_getD, List.getElem?_set_self']
  cases l[k]?
  all_goals rfl

theorem getD_set_of_ne (l : List Bool) {j k : Nat} (h : j ≠ k) : (l.set k false).getD j false = l.getD j false := by
  simp only [List.getD_eq_getElem?_getD, List.getElem?_set_ne h.symm]

/-- Settles O55. The entry is the interrupt sequence with B = 0 and then the request dropped; it is the step when the
request is the one taken. -/
theorem interruptEntryEffect : Obligations.InterruptEntryEffect := by
  refine fun s k e he => ⟨?effect, fun hpending henabled hopen hwakes hfirst => ⟨fun htaken => ?taken, ?postponed⟩⟩
  case effect =>
    obtain ⟨high, low, ps, sp, regs, hb, hi, flags, mem, ends, pc⟩ := s.enterInterrupt_spec false s.pc (s.vectorOf k)
    obtain ⟨hcfg, henabled, -, hpending⟩ := s.interruptEntry_surroundings k
    refine ⟨_, highByte s.pc, lowByte s.pc, (s.setFlag .b false).ps, rfl, isWord_split s.pc, high, low, ps,
      fun f => s.flag_setFlag .b f false, sp, fun r hr => regs r hr, hb, hi, flags, mem, ?dropped, fun j hj => ?others,
      henabled, hcfg, s.interruptEntry_runState k, ends, rfl, ?pc⟩
    case dropped => rw [hpending, getD_set_false_self]
    case others => rw [hpending, getD_set_of_ne _ hj]
    case pc =>
      rw [← State.vectorOf_eq he]
      exact pc
  case taken =>
    exact step_of_acceptedRequest (State.acceptedRequest_eq_some_iff.2 ⟨State.irqOpen_iff.2 hopen, htaken,
      (State.mem_qualifying_iff he).2 ⟨hpending, henabled, hwakes⟩,
      fun j hj => State.not_mem_qualifying.2 (hfirst j hj)⟩)
  case postponed => exact State.acceptedRequest_eq_none_of_postponed

/-! ### BRK -/

/-- The vector BRK uses is one of those it may use (R300 (c), D25). -/
theorem State.brkVectorUsed_mem (s : State) : s.brkVectorUsed ∈ s.brkVectors := by
  unfold State.brkVectorUsed
  split
  · exact List.mem_cons_self
  · have hpos : 0 < s.brkVectors.length := Nat.succ_pos _
    rw [List.getD_eq_getElem _ _ (Nat.mod_lt _ hpos)]
    exact List.getElem_mem _

/-- BRK's own vector, or that of a request that reaches the CPU. -/
theorem State.brkVectorUsed_cases (s : State) :
    s.brkVectorUsed = s.cfg.brkVector ∨ ∃ k e, s.cfg.irqTable[k]? = some e ∧ s.pending.getD k false = true ∧
      s.enabled.getD k false = true ∧ s.brkVectorUsed = e.vector := by
  refine (List.mem_cons.1 s.brkVectorUsed_mem).imp_right fun h => ?_
  obtain ⟨k, hk, hvector⟩ := List.mem_map.1 h
  obtain ⟨hlt, hpending, henabled⟩ := State.mem_reaching.1 hk
  have he := List.getElem?_eq_getElem hlt
  exact ⟨k, _, he, hpending, henabled, hvector.symm.trans (State.vectorOf_eq he)⟩

theorem State.brkVectorUsed_of_reaching_eq_nil {s : State} (h : s.reaching = []) :
    s.brkVectorUsed = s.cfg.brkVector := by
  simp only [State.brkVectorUsed, h]

/-- Settles O52: BRK is the interrupt sequence with B = 1, and keeps its surroundings like every instruction. -/
theorem brkEntersHandler : Obligations.BrkEntersHandler := by
  intro s
  obtain ⟨high, low, ps, sp, regs, hb, hi, flags, mem, ends, pc⟩ :=
    s.enterInterrupt_spec true (s.pc + 2) s.brkVectorUsed
  have same := exec_sameSurroundings (i := .brk) (s := s) rfl
  refine ⟨_, highByte (s.pc + 2), lowByte (s.pc + 2), (s.setFlag .b true).ps, s.brkVectorUsed, rfl, isWord_split _,
    high, low, ps, fun f => s.flag_setFlag .b f true, sp, regs, hb, hi, flags, mem, same.pending, same.enabled, same.cfg,
    rfl, ends, pc, s.brkVectorUsed_cases, fun hnone => ?_⟩
  refine State.brkVectorUsed_of_reaching_eq_nil (List.eq_nil_iff_forall_not_mem.2 fun k hk => ?_)
  obtain ⟨hlt, hreaches⟩ := State.mem_reaching.1 hk
  exact hnone k hlt hreaches

/-! ### WIT, STP and NOP -/

theorem opSuspend_of_not_hasStpWit {s : State} (h : s.cfg.hasStpWit = false) (r : RunState) (op : Byte) :
    opSuspend r op s = .refused (.undefinedOpcode op) := by
  rw [opSuspend, h]
  rfl

/-- WIT and STP where the member has them: the run state, and nothing else but the end of the instruction. -/
theorem opSuspend_of_hasStpWit {s : State} (h : s.cfg.hasStpWit = true) (r : RunState) (op : Byte) :
    ∃ t, opSuspend r op s = .next t ∧ t.runState = r ∧ EndsAt (s.pc + 1) t ∧ KeepsRegs [] s t ∧ KeepsFlags [] s t ∧
      KeepsMem [] s t ∧ t.pending = s.pending ∧ t.enabled = s.enabled ∧ t.cfg = s.cfg := by
  obtain ⟨regs, flags, mem, hpending, henabled, -, hcfg⟩ := (flagsOnly_advance 1).keeps s
  rw [opSuspend, if_pos h]
  exact ⟨_, rfl, rfl, s.endsAt_advance 1, fun q hq => regs q hq, flags, mem, hpending, henabled, hcfg⟩

/-- Settles O57: WIT and STP are one operation with their own run state and Op-Code. -/
theorem witStpSuspend : Obligations.WitStpSuspend := by
  refine fun s => ⟨fun h => ⟨opSuspend_of_not_hasStpWit h _ _, opSuspend_of_not_hasStpWit h _ _⟩, fun h p hp => ?_⟩
  fin_cases hp
  · exact opSuspend_of_hasStpWit h .waiting _
  · exact opSuspend_of_hasStpWit h .stopped _

/-- Settles O59: NOP is the end of a one-byte instruction and nothing else. -/
theorem nopOnlyMovesPc : Obligations.NopOnlyMovesPc :=
  fun _ => ⟨rfl, rfl⟩

/-! ### A suspended CPU -/

/-- A waiting or stopped CPU that takes no request passes the step idle (R301, R302). -/
theorem step_of_suspended {s : State} (hrun : s.runState ≠ .running) (h : s.acceptedRequest = none) :
    step s = .next s.tick := by
  simp only [step, cpuStep, h]
  split
  case h_1 hs => exact absurd hs hrun
  all_goals rfl

theorem steps_succ_of_step {s t : State} (h : step s = .next t) (n : Nat) : steps (n + 1) s = steps n t := by
  simp only [steps, h]

/-- Settles O58, by induction on the number of steps: each one is idle, since no request is taken while I masks, and an
idle step leaves the run state, I and the remembered I as they are. -/
theorem maskedSuspensionLasts : Obligations.MaskedSuspensionLasts := by
  intro s n hrun hi hold
  induction n generalizing s with
  | zero => rfl
  | succ n ih =>
    have hstep := step_of_suspended hrun (State.acceptedRequest_eq_none_of_masked hi hold)
    rw [steps_succ_of_step hstep, ih s.tick hrun hi hold, Nat.add_comm n, ← Nat.add_assoc]
    rfl

end Sys2Proof.Machine
end

section
/-! Hardware reset, between two steps and in the middle of one (O60). -/

namespace Sys2Proof.Machine

/-- Every instruction has an Op-Code byte (R93). -/
theorem encode_length_pos (i : Instr) : 0 < (encode i).length := by
  cases i
  all_goals exact Nat.succ_pos _

/-! ### What reset leaves -/

/-- A bit list that reset clears reads as false everywhere (R361, D8). -/
theorem getD_map_false (l : List Bool) (k : Nat) : (l.map fun _ => false).getD k false = false :=
  List.getD_map (l := l) (d := false) fun _ => false

/-- Reset of a state `c` with the parameters and the counter of `s`: it leaves the memory `c` has. -/
theorem State.hardwareReset_resetTo {s c : State} (hcfg : c.cfg = s.cfg) (hdraws : c.draws = s.draws) :
    ResetTo s c.mem c.hardwareReset := by
  refine ⟨c.hardwareReset_flag_i, rfl, rfl, rfl, rfl, hcfg, getD_map_false _, getD_map_false _, ?_⟩
  have hread (k : Access) (a : Word) : ({ s with mem := c.mem } : State).read k a = c.read k a :=
    State.read_congr (s := c) (t := { s with mem := c.mem }) rfl hcfg.symm hdraws.symm k a
  rw [hread, hread, ← hcfg]
  exact isWord_mkWord _ _

/-! ### Pushes cut short -/

/-- The first bytes of a push sequence that begins with a word: its high byte stands in the first stack cell, then its
low byte in the next (R65, R362). -/
theorem State.exists_first_pushes (s : State) (ret : Word) (rest : List Byte) (n : Nat) :
    ∃ hi lo, IsWord ret hi lo ∧
      (n = 1 → (s.pushAll ((pushOrder ret ++ rest).take n)).mem = (s.write (s.stackAddr s.sp) hi).mem) ∧
      (n = 2 → (s.pushAll ((pushOrder ret ++ rest).take n)).mem =
        ((s.write (s.stackAddr s.sp) hi).write (s.stackAddr (s.sp - 1)) lo).mem) :=
  ⟨_, _, isWord_split ret, by rintro rfl; rfl, by rintro rfl; rfl⟩

section
variable {i : Instr} {s : State}

/-- BRK and JSR are the instructions that push more than one byte (R273, R300). -/
theorem pushSequence_eq_nil_iff : pushSequence i s = [] ↔ i.mnemonic ∉ ["BRK", "JSR"] := by
  cases i
  all_goals simp [pushSequence, Instr.mnemonic, State.entryBytes, pushOrder]

/-- No instruction pushes more than three bytes. -/
theorem pushSequence_length_le : (pushSequence i s).length ≤ 3 := by
  cases i
  case brk | jsrAbs | jsrSp | jsrZpind => simp [pushSequence, State.entryBytes, pushOrder]
  all_goals exact Nat.zero_le _

/-- BRK and JSR push the address they save first (R273, R300, R326). -/
theorem exists_pushSequence_eq {ret : Word}
    (h : i.mnemonic = "BRK" ∧ ret = s.pc + 2 ∨ i.mnemonic = "JSR" ∧ ret = nextPc i s - 1) :
    ∃ rest, pushSequence i s = pushOrder ret ++ rest := by
  rcases h with ⟨hbrk, rfl⟩ | ⟨hjsr, rfl⟩
  · cases eq_of_mnemonic_eq (j := .brk) (by simp) hbrk
    exact ⟨_, rfl⟩
  · have hret := congrArg pushOrder (s.returnAddress_eq_nextPc_sub_one (encode_length_pos i))
    refine ⟨[], ?_⟩
    rw [List.append_nil, ← hret]
    cases i
    case jsrAbs | jsrSp | jsrZpind => rfl
    all_goals simp [Instr.mnemonic] at hjsr

/-! ### Reset in the middle of an instruction -/

/-- The memory an instruction cut short leaves, in the two cases of R362: of one that pushes a sequence its first `n`
bytes, of any other its one store or nothing. -/
theorem cutShort_cases {t : State} {n : Nat} (h : exec i s = .next t) :
    ∃ c, cutShort n i s = .next c ∧ c.cfg = s.cfg ∧ c.draws = s.draws ∧
      (pushSequence i s ≠ [] ∧ c = s.pushAll ((pushSequence i s).take n) ∨
        pushSequence i s = [] ∧ c = if n = 0 then s else t) := by
  by_cases hp : pushSequence i s = []
  · have same := exec_sameSurroundings h
    by_cases hn : n = 0
    · subst hn
      exact ⟨s, by simp [cutShort, h, hp], rfl, rfl, .inr ⟨hp, rfl⟩⟩
    · exact ⟨t, cutShort_done h hp hn, same.cfg, same.draws, .inr ⟨hp, (if_neg hn).symm⟩⟩
  · exact ⟨_, cutShort_push h hp, s.pushAll_cfg _, s.pushAll_draws _, .inl ⟨hp, rfl⟩⟩

end

theorem State.pushAll_take_mem_of_le (s : State) {bytes : List Byte} {n : Nat} (h : bytes.length ≤ n) :
    (s.pushAll (bytes.take n)).mem = (s.pushAll bytes).mem := by
  rw [List.take_of_length_le h]

theorem State.pushAll_take_zero_mem (s : State) {bytes : List Byte} {n : Nat} (h : n = 0) :
    (s.pushAll (bytes.take n)).mem = s.mem := by
  rw [h, List.take_zero, State.pushAll_nil]

/-! ### The three kinds of a step, cut short -/

/-- The step saves the address `ret` on the stack: an interrupt entry, BRK or JSR (R326, R300, R273). -/
def State.StepSaves (s : State) (ret : Word) : Prop :=
  (∃ k, s.acceptedRequest = some k) ∧ ret = s.pc ∨
    s.acceptedRequest = none ∧ s.runState = .running ∧ ∃ i, s.fetchInstr = some i ∧
      (i.mnemonic = "BRK" ∧ ret = s.pc + 2 ∨ i.mnemonic = "JSR" ∧ ret = nextPc i s - 1)

/-- What R362 says of the memory `m` that the first `n` stores of the step from `s` to `t` leave. -/
def CutMemory (s t : State) (n : Nat) (m : Memory) : Prop :=
  (n = 0 → m = s.mem) ∧ (3 ≤ n → m = t.mem) ∧
  (s.acceptedRequest = none → s.runState ≠ .running → m = s.mem) ∧
  (∀ i, s.acceptedRequest = none → s.runState = .running → s.fetchInstr = some i →
    i.mnemonic ∉ ["BRK", "JSR"] → 1 ≤ n → m = t.mem) ∧
  ∀ ret, s.StepSaves ret →
    ∃ hi lo, IsWord ret hi lo ∧ (n = 1 → m = (s.write (s.stackAddr s.sp) hi).mem) ∧
      (n = 2 → m = ((s.write (s.stackAddr s.sp) hi).write (s.stackAddr (s.sp - 1)) lo).mem)

section
variable {s t : State} {i : Instr} {k n : Nat}

theorem State.eq_pc_of_stepSaves {ret : Word} (haccepted : s.acceptedRequest = some k) (h : s.StepSaves ret) :
    ret = s.pc := by
  rcases h with ⟨-, hret⟩ | ⟨hnone, -⟩
  · exact hret
  · rw [haccepted] at hnone
    cases hnone

/-- Where no request is taken, what saves an address is BRK or JSR, and it pushes that address first. -/
theorem State.exists_pushes_of_stepSaves {ret : Word} (hnone : s.acceptedRequest = none) (h : s.StepSaves ret) :
    s.runState = .running ∧ ∃ j rest, s.fetchInstr = some j ∧ pushSequence j s = pushOrder ret ++ rest := by
  rcases h with ⟨⟨k, haccepted⟩, -⟩ | ⟨-, hrun, j, hfetch, hsaves⟩
  · rw [hnone] at haccepted
    cases haccepted
  · obtain ⟨rest, hrest⟩ := exists_pushSequence_eq hsaves
    exact ⟨hrun, j, rest, hfetch, hrest⟩

/-- An interrupt entry is cut to the first of its three bytes. -/
theorem cutMemory_entry (haccepted : s.acceptedRequest = some k) :
    CutMemory s (s.interruptEntry k).tick n (s.pushAll ((s.entryBytes false s.pc).take n)).mem := by
  have hsome : s.acceptedRequest ≠ none := by simp [haccepted]
  refine ⟨s.pushAll_take_zero_mem, fun hn => ?all, fun h => absurd h hsome, fun _ h => absurd h hsome,
    fun ret hret => ?pushed⟩
  case all => exact s.pushAll_take_mem_of_le (bytes := s.entryBytes false s.pc) hn
  case pushed =>
    rw [State.eq_pc_of_stepSaves haccepted hret]
    exact s.exists_first_pushes s.pc _ n

/-- BRK and JSR are cut to the first of their bytes. -/
theorem cutMemory_pushes (hnone : s.acceptedRequest = none) (hrun : s.runState = .running)
    (hfetch : s.fetchInstr = some i) (hexec : exec i s = .next t) (hp : pushSequence i s ≠ []) :
    CutMemory s t.tick n (s.pushAll ((pushSequence i s).take n)).mem := by
  refine ⟨s.pushAll_take_zero_mem, fun hn => ?all, fun _ h => absurd hrun h, fun j _ _ hj hm => ?other,
    fun ret hret => ?pushed⟩
  case all =>
    rw [s.pushAll_take_mem_of_le (pushSequence_length_le.trans hn)]
    exact (pushSequence_mem hp hexec).symm
  case other =>
    cases hfetch.symm.trans hj
    exact absurd (pushSequence_eq_nil_iff.2 hm) hp
  case pushed =>
    obtain ⟨-, j, rest, hj, hrest⟩ := State.exists_pushes_of_stepSaves hnone hret
    cases hfetch.symm.trans hj
    rw [hrest]
    exact s.exists_first_pushes ret rest n

/-- Any other instruction is cut before its one store or after it. -/
theorem cutMemory_one (hnone : s.acceptedRequest = none) (hrun : s.runState = .running)
    (hfetch : s.fetchInstr = some i) (hp : pushSequence i s = []) :
    CutMemory s t.tick n (if n = 0 then s else t).mem := by
  have hdone (hn : 1 ≤ n) : (if n = 0 then s else t).mem = t.tick.mem := by
    rw [if_neg (Nat.ne_of_gt hn), State.tick_mem]
  refine ⟨fun hn => by rw [if_pos hn], fun hn => hdone (Nat.le_trans (by decide) hn), fun _ h => absurd hrun h,
    fun _ _ _ _ _ => hdone, fun ret hret => ?_⟩
  obtain ⟨-, j, rest, hj, hrest⟩ := State.exists_pushes_of_stepSaves hnone hret
  cases hfetch.symm.trans hj
  rw [hp] at hrest
  cases hrest

/-- An idle moment stores nothing. -/
theorem cutMemory_idle (hnone : s.acceptedRequest = none) (hrun : s.runState ≠ .running) :
    CutMemory s s.tick n s.mem := by
  refine ⟨fun _ => rfl, fun _ => rfl, fun _ _ => rfl, fun _ _ h => absurd h hrun, fun ret hret => ?_⟩
  obtain ⟨h, -⟩ := State.exists_pushes_of_stepSaves hnone hret
  exact absurd h hrun

/-- Reset in the middle of a step that completes: it leaves what reset of some `c` does, which has the memory of the
stores done. -/
theorem State.resetDuring_of_step (h : step s = .next t) (n : Nat) :
    ∃ c : State, s.resetDuring n = .next c.hardwareReset ∧ c.cfg = s.cfg ∧ c.draws = s.draws ∧
      CutMemory s t n c.mem := by
  rcases step_cases h with ⟨k, haccepted, rfl⟩ | ⟨i, u, hnone, hrun, hfetch, hexec, rfl⟩ | ⟨hnone, hrun, rfl⟩
  · exact ⟨_, State.resetDuring_entry haccepted, s.pushAll_cfg _, s.pushAll_draws _, cutMemory_entry haccepted⟩
  · obtain ⟨c, hcut, hcfg, hdraws, hcases⟩ := cutShort_cases (n := n) hexec
    refine ⟨c, ?_, hcfg, hdraws, ?_⟩
    · rw [State.resetDuring_instr hnone hrun hfetch, hcut]
      rfl
    · rcases hcases with ⟨hp, rfl⟩ | ⟨hp, rfl⟩
      · exact cutMemory_pushes hnone hrun hfetch hexec hp
      · exact cutMemory_one hnone hrun hfetch hp
  · exact ⟨s, State.resetDuring_idle hnone hrun, rfl, rfl, cutMemory_idle hnone hrun⟩

end

/-- Settles O60: reset between two steps changes no memory, and in the middle of one it is the reset of a state whose
memory the stores done have made. -/
theorem hardwareResetEffect : Obligations.HardwareResetEffect := by
  refine ⟨fun s => State.hardwareReset_resetTo rfl rfl, fun s t n h => ?_⟩
  obtain ⟨c, hreset, hcfg, hdraws, hmem⟩ := State.resetDuring_of_step h n
  exact ⟨c.mem, _, hreset, State.hardwareReset_resetTo hcfg hdraws, hmem⟩

end Sys2Proof.Machine
end
